-- ==== Sys2Proof/Word.lean ====
section
/-! DEFINITION. The word types of the OFW-2240 manual: values the manual counts modulo a power of two
(MSNs, generations, attempts) or reads and writes as bits (bytes, tags, host addresses) are bit vectors;
names of a fixed number of like things (streams, lanes, slicer slots) are bounded numbers. -/

namespace Sys2Proof

/-- One byte of a link unit, a host-memory record or message data. -/
abbrev Byte := BitVec 8

/-- A message sequence number, 0 to 255, counted modulo 256 (Conventions, sequence arithmetic). -/
abbrev Msn := BitVec 8

/-- A stream generation, 0 to 15, counted modulo 16 (Conventions, sequence arithmetic). -/
abbrev Gen := BitVec 4

/-- An attempt number, 0 to 7, counted modulo 8 (Conventions, sequence arithmetic). -/
abbrev Attempt := BitVec 3

/-- A request tag: any 32-bit value (R193). -/
abbrev Tag := BitVec 32

/-- A 64-bit host byte address. -/
abbrev HostAddr := BitVec 64

/-- A stream number, 0 to 63. -/
abbrev StreamId := Fin 64

/-- A lane number, 0 to 3. -/
abbrev LaneId := Fin 4

/-- The number of a slicer slot of the Transmit Engine (R31). -/
abbrev SlotId := Fin 4

end Sys2Proof
end

