-- ==== Sys2Proof/Config.lean ====
section
/-! DEFINITION. What every OFW-2240 fixes: the sizes of its pools, queues and windows, its two fixed time
limits and its identity word. The values that the host sets (the configuration record, the ring geometry)
are state, not configuration. One value the manual leaves open stands here as a constant without a body: the
PCIe transaction identifier of a new read. -/

namespace Sys2Proof.Config

/-- Send entries in the send pool, shared by all streams (R26). -/
def sendPoolSize : Nat := 256
/-- Entries one stream's transmit list can hold (R27). -/
def transmitListLimit : Nat := 32
/-- Entries of a transmit list that form the send window, and MSNs of the receive window (R28, R69). -/
def windowSize : Nat := 8
/-- Message bytes carried by every slice but the last (R33). -/
def sliceBytes : Nat := 256
/-- Buffer entries in the buffer table, shared by all streams (R56). -/
def bufferTableSize : Nat := 512
/-- Entries one stream's buffer list can hold (R58). -/
def bufferListLimit : Nat := 16
/-- Reassembly contexts, shared by all streams (R70). -/
def contextPoolSize : Nat := 128
/-- Pairs the outcome history of a stream can hold (R86). -/
def historyLimit : Nat := 8
/-- Fence records of the Fence Table (R97). -/
def fenceTableSize : Nat := 4
/-- Notices the notice queue can hold (R109, R125). -/
def noticeQueueLimit : Nat := 32
/-- Units a lane's transmit queue can hold (R108). -/
def laneQueueLimit : Nat := 4
/-- Valid ALIGN units in a row that make a SEEKING lane ALIGNED (R114). -/
def alignRun : Nat := 8
/-- Bad units in a row that send an ALIGNED or UP lane back to SEEKING (R116). -/
def badUnitLimit : Nat := 4
/-- The silence limit of a lane, in microseconds (R117). -/
def silenceLimit : Nat := 64
/-- Host memory reads the read tracker can hold (R180). -/
def trackerSize : Nat := 8
/-- The host read timeout, 50 ms, in microseconds (R138, R181). -/
def readTimeout : Nat := 50000
/-- Host memory writes the write queue can hold (R183). -/
def writeQueueLimit : Nat := 16
/-- Smallest ring order in force (R134, R154). -/
def minRingOrder : Nat := 4
/-- Largest ring order in force (R134, R154). -/
def maxRingOrder : Nat := 12
/-- Bytes of a request record (R134, R193). -/
def requestBytes : Nat := 64
/-- Bytes of a completion record (R154, R194). -/
def completionBytes : Nat := 32
/-- The constant that IDENT reads (R174, R196). -/
def ident : BitVec 32 := 0x5A4F2240#32

/-- The transaction identifier proposed for the host memory read that is issued when the part has sent `n` things
from its pins. No value of it is known: the manual asks only that a new read's identifier is none that an
outstanding or forgotten read holds (R182, assumption 1). -/
opaque readIdentifier (n : Nat) : Nat

end Sys2Proof.Config
end

