-- ==== Sys2Proof/Syntax.lean ====
section
/-! DEFINITION. The commands the OFW-2240 takes: one constructor of Instr per row of
spec/opcode_table.json, with the operands the row's rule reads from outside the part. A command is a write of
the register window, a request record that the Request Processor's read brings in, a unit that a lane
receives, the expiry of a timer, or a step that the part takes of its own accord (a grant, a read issue, a
slot fill, a placement, a departure). -/

namespace Sys2Proof

/-- The role of one end of the link (R143, R195). -/
inductive Role where
  | a
  | b
deriving DecidableEq, Repr

/-- Why a receiver defers a message (R77, R195). -/
inductive DeferReason where
  | noBuffer
  | noContext
deriving DecidableEq, Repr

/-- The commands, one constructor per row of the opcode table. -/
inductive Instr where
  /-- PORT_RESET (R179): a PCIe fundamental reset ends, or power comes on. -/
  | portReset
  /-- SOFT_RESET (R175, R179): a write to CONTROL with RESET 1. Its other two bits are not applied. -/
  | softReset
  /-- ENABLE_SET (R178): a write to CONTROL with ENABLE 1, RESET 0 and the given INT_ENABLE. -/
  | enableSet (intEnable : Bool)
  /-- ENABLE_CLEAR (R178): a write to CONTROL with ENABLE 0, RESET 0 and the given INT_ENABLE. -/
  | enableClear (intEnable : Bool)
  /-- INT_ENABLE_WRITE (R175): a write to CONTROL with RESET 0, which presents both enable fields. -/
  | intEnableWrite (enable intEnable : Bool)
  /-- RQ_RING_WRITE (R176): a 64-bit write to RQ_RING. -/
  | rqRingWrite (value : BitVec 64)
  /-- CQ_RING_WRITE (R155, R176): a 64-bit write to CQ_RING. -/
  | cqRingWrite (value : BitVec 64)
  /-- RQ_TAIL_WRITE (R135): a write to RQ_TAIL. -/
  | rqTailWrite (value : BitVec 32)
  /-- CQ_HEAD_WRITE (R159): a write to CQ_HEAD. -/
  | cqHeadWrite (value : BitVec 32)
  /-- REGISTER_WRITE (R173): a write access of size bytes at an offset of the register window. -/
  | registerWrite (offset size : Nat) (value : BitVec 64)
  /-- CONFIGURE (R148): the outstanding record read completes with this CONFIGURE record. -/
  | configure (tag : Tag) (laneMask role epoch retryLimit : Byte)
      (ackTimeout deferHoldoff syncInterval : BitVec 16)
  /-- OPEN (R4): the outstanding record read completes with this OPEN record. -/
  | openStream (stream : Byte) (tag : Tag)
  /-- CLOSE (R12): the outstanding record read completes with this CLOSE record. -/
  | closeStream (stream : Byte) (tag : Tag) (mode : Byte)
  /-- SEND (R29): the outstanding record read completes with this SEND record. -/
  | send (stream : Byte) (tag : Tag) (address : HostAddr) (length : BitVec 16)
  /-- POST (R59): the outstanding record read completes with this POST record. -/
  | post (stream : Byte) (tag : Tag) (address : HostAddr) (capacity : BitVec 16)
  /-- FENCE (R98): the outstanding record read completes with this FENCE record. -/
  | fence (stream : Byte) (tag : Tag) (scope : Byte)
  /-- QUERY_STREAM (R149): the outstanding record read completes with this QUERY_STREAM record. -/
  | queryStream (stream : Byte) (tag : Tag) (clear : Byte)
  /-- QUERY_LINK (R150): the outstanding record read completes with this QUERY_LINK record. -/
  | queryLink (tag : Tag) (clear : Byte)
  /-- RESERVATION_GRANT (R137): the slot arbiter grants the Request Processor's wish. -/
  | reservationGrant
  /-- RECORD_READ_ISSUE (R138): the Request Processor in HOLDING issues its record read. -/
  | recordReadIssue
  /-- RECORD_READ_COMPLETE (R140): a completion part of the record read arrives with these bytes;
  with the last of them the read completes. -/
  | recordReadComplete (data : List Byte)
  /-- SLICE_READ_ISSUE (R34): the next slicer slot with a free read place issues its slice read. -/
  | sliceReadIssue
  /-- SLICE_READ_RETURN (R35): a completion part of the slice read of this transaction identifier
  arrives with these bytes; with the last of them the read completes. -/
  | sliceReadReturn (id : Nat) (data : List Byte)
  /-- READ_ERROR (R181): a completion part of this read carries an error status. -/
  | readError (id : Nat)
  /-- READ_TIMEOUT (R181): the 50 ms timer of this read runs out. -/
  | readTimeout (id : Nat)
  /-- FORGOTTEN_READ_RETURN (R182): data or an error returns for a read that a reset forgot. -/
  | forgottenReadReturn (id : Nat)
  /-- SLICER_SLOT_FILL (R32): a free slicer slot takes the next eligible entry. -/
  | slicerSlotFill
  /-- UNIT_PLACEMENT (R126): one notice or slice is placed on a lane. -/
  | unitPlacement
  /-- LANE_UNIT_TRANSMIT (R110): the lane begins to transmit a unit. -/
  | laneUnitTransmit (lane : LaneId)
  /-- ALIGN_RECEIVED (R114, R115): a good ALIGN arrives on the lane. -/
  | alignReceived (lane : LaneId) (role : Role) (epoch : Byte) (ready : Bool)
  /-- BAD_UNIT_RECEIVED (R111): a unit that is not good arrives on the lane. -/
  | badUnitReceived (lane : LaneId)
  /-- IDLE_RECEIVED (R111): a good IDLE arrives on the lane. -/
  | idleReceived (lane : LaneId)
  /-- SILENCE_TIMER_EXPIRY (R117): the lane's silence timer expires. -/
  | silenceTimerExpiry (lane : LaneId)
  /-- SLICE_RECEIVED (R72): a good SLICE arrives on the lane. -/
  | sliceReceived (lane : LaneId) (stream : StreamId) (gen : Gen) (msn : Msn) (attempt : Attempt)
      (index : Byte) (last : Bool) (payload : List Byte)
  /-- SYNC_RECEIVED (R8): a good SYNC arrives on the lane. -/
  | syncReceived (lane : LaneId) (stream : StreamId) (gen : Gen)
  /-- SYNC_ACK_RECEIVED (R7): a good SYNC_ACK arrives on the lane. -/
  | syncAckReceived (lane : LaneId) (stream : StreamId) (gen : Gen)
  /-- SYNC_TIMER_EXPIRY (R5): the stream's sync timer expires. -/
  | syncTimerExpiry (stream : StreamId)
  /-- ACK_RECEIVED (R42): a good ACK arrives on the lane. -/
  | ackReceived (lane : LaneId) (stream : StreamId) (gen : Gen) (msn : Msn)
  /-- DEFER_RECEIVED (R43): a good DEFER arrives on the lane. -/
  | deferReceived (lane : LaneId) (stream : StreamId) (gen : Gen) (msn : Msn) (attempt : Attempt)
      (reason : DeferReason)
  /-- REJECT_TOO_LONG_RECEIVED (R44): a good REJECT of reason TOO_LONG arrives on the lane. -/
  | rejectTooLongReceived (lane : LaneId) (stream : StreamId) (gen : Gen) (msn : Msn)
  /-- REJECT_NOT_OPEN_RECEIVED (R45): a good REJECT of reason NOT_OPEN arrives on the lane. -/
  | rejectNotOpenReceived (lane : LaneId) (stream : StreamId) (gen : Gen) (msn : Msn)
  /-- ACK_TIMER_EXPIRY (R39): the ack timer of the stream's entry for this MSN expires. -/
  | ackTimerExpiry (stream : StreamId) (msn : Msn)
  /-- HOLDOFF_TIMER_EXPIRY (R40): the holdoff timer of the stream's entry for this MSN expires. -/
  | holdoffTimerExpiry (stream : StreamId) (msn : Msn)
  /-- DATA_WRITE_DEPARTS (R82, R184): the data write at the head of the write queue departs. -/
  | dataWriteDeparts
  /-- RECORD_WRITE_DEPARTS (R184): the record write at the head of the write queue departs. -/
  | recordWriteDeparts
  /-- BACKLOG_MOVE (R165): the oldest record of the backlog enters the write queue. -/
  | backlogMove
  /-- INTERRUPT_MESSAGE (R188): the owed interrupt falls due, while the endpoint's message-signalled
  interrupt is enabled or not (its enable is PCIe configuration, outside the manual's scope). -/
  | interruptMessage (msiEnabled : Bool)
  /-- LINK_EVENT_GRANT (R124): the slot arbiter grants the pending link event. -/
  | linkEventGrant
  /-- STREAM_EVENT_GRANT (R24): the slot arbiter grants the next stream event. -/
  | streamEventGrant
  /-- RELEASE_LIST_GRANT (R64): the slot arbiter grants the next release list. -/
  | releaseListGrant
  /-- FORGOTTEN_READ_EXPIRY (R182): 50 ms have passed since a read that a reset forgot was issued. -/
  | forgottenReadExpiry (id : Nat)
deriving DecidableEq, Repr

end Sys2Proof
end

