-- ==== Sys2Proof/WellFormed.lean ====
section
/-! DEFINITION. Which commands the outside world can send: the bounds on operands that the operand types do
not carry already. -/

namespace Sys2Proof

/-- The operands of a command lie where the manual lets them lie. A good ALIGN has no epoch 0 and a good
SLICE no more than 256 payload bytes (R192); a completion part of a host read brings at least one byte and
never more than the read asks for (R34, R138, R180); a register access has 1, 2, 4 or 8 bytes and its value
fits them (R173 judges the sizes). -/
def Instr.wellFormed : Instr → Bool
  | .alignReceived _ _ epoch _ => epoch != 0
  | .sliceReceived _ _ _ _ _ _ _ payload => decide (payload.length ≤ Config.sliceBytes)
  | .recordReadComplete data => decide (1 ≤ data.length ∧ data.length ≤ Config.requestBytes)
  | .sliceReadReturn _ data => decide (1 ≤ data.length ∧ data.length ≤ Config.sliceBytes)
  | .registerWrite _ size value =>
      (size == 1 || size == 2 || size == 4 || size == 8) && decide (value.toNat < 2 ^ (8 * size))
  | _ => true

end Sys2Proof
end

