-- ==== Sys2Proof/Decode.lean ====
section
/-! DEFINITION. The opcode table gives no row of this part any bits (every row's list of fields is empty): a
command is no word. So no word spells a command. The layouts that the manual does give (link units, request
records, completion records, registers) stand in Sys2Proof/Machine/Operands.lean and HostPort.lean. -/

namespace Sys2Proof

/-- The command that a word spells by the table's bits: none, since no row has bits. -/
def decodeTableWord (_nbits _w : Nat) : Option Instr := none

end Sys2Proof
end

