-- ==== Sys2Proof/Machine/State.lean ====
section
/-! DEFINITION. The state of the OFW-2240, block by block as the manual's block diagram has it: the Stream
Table, the Transmit Engine, the Receive Engine, the Fence Table, the Link Manager, the Request Processor, the
Completion Poster and the Host Access Unit; beside them the model's own two fields, the queue of commands
that wait and the record of what left the part's pins. Plain data throughout. -/

namespace Sys2Proof.Machine

/-! ### Names -/

/-- Where a stream stands in its life (R1). -/
inductive StreamState where
  | closed
  | opening
  | opened
  | draining
  | releasing
  | faulted
deriving DecidableEq, Repr

/-- The mode of a CLOSE (R1, R12). -/
inductive CloseMode where
  | graceful
  | immediate
deriving DecidableEq, Repr

/-- How a stream last entered RELEASING (R1, R18). -/
inductive ReleaseCause where
  | closed
  | faulted
deriving DecidableEq, Repr

/-- The cause a stream event of kind FAULTED carries (R23). -/
inductive FaultCause where
  | noResponse
  | remoteClosed
  | peerReset
deriving DecidableEq, Repr

/-- The kind of a stream event, with the cause that kind FAULTED carries (R23). -/
inductive EventKind where
  | faulted (cause : FaultCause)
  | resynced
deriving DecidableEq, Repr

/-- The outcome of a delivered MSN (R86). -/
inductive DeliveryOutcome where
  | ack
  | tooLong
deriving DecidableEq, Repr

/-- The failure statuses of a send entry (R48, R167). -/
inductive SendFailure where
  | noResponse
  | remoteClosed
  | remoteTooLong
  | streamFaulted
  | closedLocally
  | peerResync
  | peerReset
deriving DecidableEq, Repr

/-- The state of a send entry (R26). A FAILED entry also holds its failure status. -/
inductive EntryState where
  | queued
  | sending
  | awaiting
  | held
  | acked
  | failed (status : SendFailure)
deriving DecidableEq, Repr

/-- The state of a reassembly context (R70). -/
inductive ContextState where
  | assembling
  | landing
  | complete
  | oversize
deriving DecidableEq, Repr

/-- Why a buffer is returned without a message (R61). -/
inductive ReturnReason where
  | streamClosed
  | streamResync
  | streamFaulted
  | peerReset
deriving DecidableEq, Repr

/-- The status of an ARRIVAL (R61). -/
inductive ArrivalStatus where
  | ok
  | oversize
deriving DecidableEq, Repr

/-- Where a lane stands in training (R108). -/
inductive LaneState where
  | off
  | seeking
  | aligned
  | up
deriving DecidableEq, Repr

/-- The state of the link as a whole (R109). -/
inductive LinkState where
  | down
  | up
deriving DecidableEq, Repr

/-- The engine state (R178). -/
inductive EngineState where
  | stopped
  | running
  | halted
deriving DecidableEq, Repr

/-- The halt cause (R174). -/
inductive HaltCause where
  | none
  | readError
  | readTimeout
deriving DecidableEq, Repr

/-- Why a REJECT refuses (R73, R80, R195). -/
inductive RejectReason where
  | notOpen
  | tooLong
deriving DecidableEq, Repr

/-- A timer: stopped, running, or suspended with the time it has left, in microseconds. -/
inductive Timer where
  | stopped
  | running (remaining : Nat)
  | suspended (remaining : Nat)
deriving DecidableEq, Repr

/-- The statuses of a REQUEST_DONE (R167, R195). -/
inductive Status where
  | success
  | badRequest
  | notConfigured
  | wrongState
  | busy
  | listFull
  | poolEmpty
  | fenceBusy
  | cancelled
  | sendFailed (status : SendFailure)
deriving DecidableEq, Repr

/-- The scope of a fence (R97). -/
inductive FenceScope where
  | one (stream : StreamId)
  | all
deriving DecidableEq, Repr

/-! ### The Stream Table -/

/-- A recorded stream event (R23). -/
structure StreamEvent where
  kind : EventKind
  gen : Gen
  count : BitVec 8
deriving DecidableEq, Repr

/-- The stream record of the Stream Table (R1). -/
structure StreamRecord where
  state : StreamState
  gen : Gen
  lastGen : Gen
  openPending : Option Tag
  closePending : List (Tag × CloseMode)
  releaseCause : ReleaseCause
  syncTimer : Timer
  syncSent : BitVec 16
  event : Option StreamEvent
  deferralNote : Option (Msn × Attempt)
  history : List (Msn × DeliveryOutcome)
deriving DecidableEq, Repr

/-! ### The Transmit Engine -/

/-- A send entry (R26). Its `stream` is the stream whose list holds it and its `slices` is a function of
its length, so neither is stored twice. -/
structure SendEntry where
  tag : Tag
  address : HostAddr
  length : Nat
  msn : Msn
  state : EntryState
  attempt : Attempt
  retries : Nat
  defers : BitVec 8
  ackTimer : Timer
  holdoffTimer : Timer
deriving DecidableEq, Repr

/-- What the Transmit Engine holds for one stream: its transmit list, head first, `tx_next` and the three
transmit counters (R26, R28, R52). -/
structure TxStream where
  list : List SendEntry
  txNext : Msn
  slicesSent : BitVec 16
  retransmissions : BitVec 16
  defersReceived : BitVec 16
deriving DecidableEq, Repr

/-- A read place of a slicer slot (R31). -/
inductive Place where
  | free
  | waiting (index : Nat)
  | ready (index : Nat) (data : List Byte)
deriving DecidableEq, Repr

/-- A slicer slot that holds an entry (R31). The entry is named by its stream and MSN, which no two entries
share (R30); `occupation` tells this transmission from every other that a slot held. -/
structure SlotWork where
  stream : StreamId
  msn : Msn
  attempt : Attempt
  occupation : Nat
  nextRead : Nat
  nextHand : Nat
  placeA : Place
  placeB : Place
deriving DecidableEq, Repr

/-- The Transmit Engine: the transmit lists, the four slicer slots, the slicer pointer (R32), the orders in
which slices are offered and reads issued (R34, R36, R55), and the number the next occupation takes. -/
structure TransmitEngine where
  tx : Vector TxStream 64
  slots : Vector (Option SlotWork) 4
  slicerPointer : StreamId
  offerPointer : SlotId
  readPointer : SlotId
  nextOccupation : Nat
deriving DecidableEq, Repr

/-! ### The Receive Engine -/

/-- What a POST supplies (R56): the fields every buffer entry that is not FREE holds. -/
structure Buffer where
  tag : Tag
  address : HostAddr
  capacity : Nat
deriving DecidableEq, Repr

/-- A release record (R61). Its stream is the stream whose release list holds it and its tag the buffer's. -/
inductive ReleaseRecord where
  | arrival (gen : Gen) (msn : Msn) (length : Nat) (status : ArrivalStatus)
  | bufferReturn (gen : Gen) (reason : ReturnReason)
deriving DecidableEq, Repr

/-- A buffer entry in RELEASING with the record that will hand it back (R61). -/
structure ReleaseEntry where
  buffer : Buffer
  record : ReleaseRecord
deriving DecidableEq, Repr

/-- What the Receive Engine holds for one stream: `rx_expected` (R69), the buffer list (R58), the release
list (R61) and the two receive counters (R93). -/
structure RxStream where
  rxExpected : Msn
  bufferList : List Buffer
  releaseList : List ReleaseEntry
  defersSent : BitVec 16
  straysDropped : BitVec 16
deriving DecidableEq, Repr

/-- A reassembly context in use (R70). `lastSlice` holds `last_index` and `last_length`, which are absent and
present together (R81); `occupancy` tells this allocation from every other. -/
structure ReContext where
  stream : StreamId
  msn : Msn
  state : ContextState
  buffer : Buffer
  received : BitVec 64
  lastSlice : Option (Nat × Nat)
  writesOutstanding : Nat
  occupancy : Nat
deriving DecidableEq, Repr

/-- The Receive Engine: the per-stream state, the contexts in use and the number the next occupancy takes.
A buffer entry is kept where R57 says it stands: in a buffer list (LISTED), in a context (BOUND) or in a
release list (RELEASING); every entry that is in none of these is FREE. -/
structure ReceiveEngine where
  rx : Vector RxStream 64
  contexts : List ReContext
  nextOccupancy : Nat
deriving DecidableEq, Repr

/-! ### The Fence Table -/

/-- A pending fence record (R97). The Fence Table is the list of these, oldest first. -/
structure FenceRecord where
  tag : Tag
  scope : FenceScope
  remaining : Vector Nat 64
  failures : Nat
  awaited : Nat
deriving DecidableEq, Repr

/-! ### The Link Manager -/

/-- A notice (R109). -/
inductive Notice where
  | sync (stream : StreamId) (gen : Gen)
  | syncAck (stream : StreamId) (gen : Gen)
  | ack (stream : StreamId) (gen : Gen) (msn : Msn)
  | defer (stream : StreamId) (gen : Gen) (msn : Msn) (attempt : Attempt) (reason : DeferReason)
  | reject (stream : StreamId) (gen : Gen) (msn : Msn) (reason : RejectReason)
deriving DecidableEq, Repr

/-- The fields of a SLICE unit (R33, R191). Its payload length is the payload's own. -/
structure SliceUnit where
  stream : StreamId
  gen : Gen
  msn : Msn
  attempt : Attempt
  index : Byte
  last : Bool
  payload : List Byte
deriving DecidableEq, Repr

/-- A link unit (R191). -/
inductive LinkUnit where
  | align (role : Role) (epoch : Byte) (ready : Bool)
  | idle
  | slice (unit : SliceUnit)
  | notice (notice : Notice)
deriving DecidableEq, Repr

/-- A lane controller (R108). -/
structure Lane where
  state : LaneState
  validRun : Nat
  badRun : Nat
  silenceTimer : Timer
  txQueue : List LinkUnit
  badUnits : BitVec 8
  retrains : BitVec 8
deriving DecidableEq, Repr

/-- The Link Manager: the lane controllers and the link record (R108, R109). -/
structure LinkManager where
  lanes : Vector Lane 4
  partnerEpoch : Byte
  linkState : LinkState
  roleClash : Bool
  noticeQueue : List Notice
  lanePointer : LaneId
  linkEvent : BitVec 8
deriving DecidableEq, Repr

/-! ### The Request Processor -/

/-- The taking state of the Request Processor (R135 to R139). READING remembers whether the outstanding read
belongs to a ring since rewritten. -/
inductive TakingState where
  | idle
  | holding
  | reading (oldRing : Bool)
deriving DecidableEq, Repr

/-- The configuration record (R147). While `configured` is clear the last six fields mean nothing. -/
structure ConfigRecord where
  configured : Bool
  laneMask : BitVec 4
  role : Role
  localEpoch : Byte
  ackTimeout : Nat
  retryLimit : Nat
  deferHoldoff : Nat
  syncInterval : Nat
deriving DecidableEq, Repr

/-- The Request Processor: its taking state, the two ring indices and the configuration record. -/
structure RequestProcessor where
  taking : TakingState
  rqHead : Nat
  rqTail : Nat
  config : ConfigRecord
deriving DecidableEq, Repr

/-! ### The Completion Poster -/

/-- The status of one lane that a QUERY_LINK reports (R130). -/
structure LaneReport where
  state : LaneState
  badUnits : BitVec 8
  retrains : BitVec 8
deriving DecidableEq, Repr

/-- The contents of a QUERY_STREAM completion (R149). -/
structure StreamReport where
  state : StreamState
  gen : Gen
  txNext : Msn
  headMsn : Msn
  listLength : Nat
  rxExpected : Msn
  contextsInUse : Nat
  buffersListed : Nat
  slicesSent : BitVec 16
  retransmissions : BitVec 16
  defersReceived : BitVec 16
  defersSent : BitVec 16
  straysDropped : BitVec 16
deriving DecidableEq, Repr

/-- The contents of a QUERY_LINK completion (R130, R150). -/
structure LinkReport where
  lanes : Vector LaneReport 4
  partnerEpoch : Byte
  linkState : LinkState
  roleClash : Bool
deriving DecidableEq, Repr

/-- The kind-specific contents of a REQUEST_DONE (R167, R194). `none` is that of a CONFIGURE and of every
record refused with BAD_REQUEST or NOT_CONFIGURED. -/
inductive DoneBody where
  | none
  | openDone (syncSent : BitVec 16)
  | closeDone (mode : CloseMode)
  | sendDone (msn : Msn) (retries : Nat) (defers : BitVec 8)
  | postDone (listed : Nat)
  | fenceDone (scope : FenceScope) (failures awaited : Nat)
  | streamDone (report : StreamReport)
  | linkDone (report : LinkReport)
deriving DecidableEq, Repr

/-- A completion record by meaning (R167, R168). A REQUEST_DONE carries the kind code and the stream field as
bytes, since a refused record returns them as read (R142). -/
inductive Completion where
  | requestDone (kind : Byte) (stream : Byte) (tag : Tag) (status : Status) (body : DoneBody)
  | arrival (stream : StreamId) (tag : Tag) (gen : Gen) (msn : Msn) (length : Nat) (status : ArrivalStatus)
  | bufferReturn (stream : StreamId) (tag : Tag) (gen : Gen) (reason : ReturnReason)
  | streamEvent (stream : StreamId) (event : StreamEvent)
  | linkEvent (linkState : LinkState) (lanesUp : BitVec 4) (partnerEpoch : Byte) (count : BitVec 8)
deriving DecidableEq, Repr

/-- A posted record: its content with the address and phase it was given at its posting (R158). -/
structure PostedRecord where
  address : HostAddr
  phase : Bool
  content : Completion
deriving DecidableEq, Repr

/-- The Completion Poster (R156). `CQ_HEAD` is (`tail` − `unconsumed`) modulo the ring size (R156, R177), so it
is computed and not stored. -/
structure CompletionPoster where
  tail : Nat
  phase : Bool
  unconsumed : Nat
  reserved : Nat
  releasePointer : StreamId
  backlog : List PostedRecord
deriving DecidableEq, Repr

/-! ### The Host Access Unit -/

/-- A ring register as its layout holds it: base address bits 63 to 12 and the order (R196). -/
structure Ring where
  base : BitVec 52
  order : BitVec 4
deriving DecidableEq, Repr

/-- The owner of a tracked read (R180): the Request Processor, or a slicer slot with the occupation that
issued the read and the slice it reads. -/
inductive ReadOwner where
  | requestProcessor
  | slicer (slot : SlotId) (occupation index : Nat)
deriving DecidableEq, Repr

/-- An entry of the read tracker (R180), with the PCIe transaction identifier of its read (R182). -/
structure ReadEntry where
  id : Nat
  owner : ReadOwner
  address : HostAddr
  length : Nat
  received : List Byte
  timer : Timer
deriving DecidableEq, Repr

/-- A write in the write queue (R183): a data write with the occupancy that queued it (R82), or the write of
a posted record. -/
inductive HostWrite where
  | data (occupancy : Nat) (address : HostAddr) (payload : List Byte)
  | record (posted : PostedRecord)
deriving DecidableEq, Repr

/-- The Host Access Unit: the engine state and CONTROL's enables, the halt cause and FAULT_ADDRESS, the ring
registers, the read tracker and the identifiers of forgotten reads (R182), the write queue, and the owed
interrupt with the record departures it still awaits (R188). -/
structure HostAccess where
  engine : EngineState
  enable : Bool
  intEnable : Bool
  haltCause : HaltCause
  faultAddress : HostAddr
  rqRing : Ring
  cqRing : Ring
  tracker : List ReadEntry
  forgotten : List Nat
  writeQueue : List HostWrite
  interruptOwed : Option Nat
deriving DecidableEq, Repr

/-! ### The whole part -/

/-- What leaves the part at its pins: a host memory read request, a host memory write, an interrupt message,
or a unit on a lane. -/
inductive Emission where
  | hostRead (id : Nat) (address : HostAddr) (length : Nat)
  | hostWrite (address : HostAddr) (bytes : List Byte)
  | interruptMessage
  | laneUnit (lane : LaneId) (bytes : List Byte)
deriving DecidableEq, Repr

/-- The state of the part. `emitted` (what left the pins, newest first) and `pending` (the commands that wait,
first in, first out) are the model's own fields. -/
structure State where
  hau : HostAccess
  rp : RequestProcessor
  st : Vector StreamRecord 64
  te : TransmitEngine
  re : ReceiveEngine
  ft : List FenceRecord
  lm : LinkManager
  cp : CompletionPoster
  emitted : List Emission
  pending : List Instr
deriving DecidableEq, Repr

/-- A command of the OFW-2240 never stops the machine: the one failure the manual describes, the halt of R185,
is a state (`EngineState.halted`), so this type has no constructor. Nobody raises it; safe. -/
inductive Fault where
deriving DecidableEq, Repr

/-- A command without a meaning. -/
inductive Refusal where
  /-- Raised by exec alone, in the arm of a command that has no meaning yet; no arm is one now. Safe. -/
  | notModelled (mnemonic : String)
deriving DecidableEq, Repr

/-! ### Reset values -/

/-- A stream record after either reset (R2). -/
def StreamRecord.reset : StreamRecord where
  state := .closed
  gen := 0
  lastGen := 0
  openPending := none
  closePending := []
  releaseCause := .closed
  syncTimer := .stopped
  syncSent := 0
  event := none
  deferralNote := none
  history := []

/-- The Transmit Engine's state of one stream after either reset (R55). -/
def TxStream.reset : TxStream where
  list := []
  txNext := 0
  slicesSent := 0
  retransmissions := 0
  defersReceived := 0

/-- The Transmit Engine after either reset (R55): the pointers name stream 63 and slot 3, so that the first
searches start at 0. -/
def TransmitEngine.reset : TransmitEngine where
  tx := Vector.replicate 64 TxStream.reset
  slots := Vector.replicate 4 none
  slicerPointer := 63
  offerPointer := 3
  readPointer := 3
  nextOccupation := 0

/-- The Receive Engine's state of one stream after either reset (R68, R96). -/
def RxStream.reset : RxStream where
  rxExpected := 0
  bufferList := []
  releaseList := []
  defersSent := 0
  straysDropped := 0

/-- The Receive Engine after either reset (R68, R96). -/
def ReceiveEngine.reset : ReceiveEngine where
  rx := Vector.replicate 64 RxStream.reset
  contexts := []
  nextOccupancy := 0

/-- A lane controller after either reset (R133). -/
def Lane.reset : Lane where
  state := .off
  validRun := 0
  badRun := 0
  silenceTimer := .stopped
  txQueue := []
  badUnits := 0
  retrains := 0

/-- The Link Manager after either reset (R133). -/
def LinkManager.reset : LinkManager where
  lanes := Vector.replicate 4 Lane.reset
  partnerEpoch := 0
  linkState := .down
  roleClash := false
  noticeQueue := []
  lanePointer := 3
  linkEvent := 0

/-- The configuration record after either reset (R153). The manual says that the last six fields then hold
no value; the zeros and role A here are the model's (DESIGN CHOICE, assumption 2). -/
def ConfigRecord.reset : ConfigRecord where
  configured := false
  laneMask := 0
  role := .a
  localEpoch := 0
  ackTimeout := 0
  retryLimit := 0
  deferHoldoff := 0
  syncInterval := 0

/-- The Request Processor after either reset (R153). -/
def RequestProcessor.reset : RequestProcessor where
  taking := .idle
  rqHead := 0
  rqTail := 0
  config := ConfigRecord.reset

/-- The Completion Poster after either reset (R172). -/
def CompletionPoster.reset : CompletionPoster where
  tail := 0
  phase := true
  unconsumed := 0
  reserved := 0
  releasePointer := 63
  backlog := []

/-- A ring register after a port reset: base 0 and order 4 (R179, R196). -/
def Ring.reset : Ring where
  base := 0
  order := 4

/-- The Host Access Unit after a port reset with nothing outstanding (R179). -/
def HostAccess.reset : HostAccess where
  engine := .stopped
  enable := false
  intEnable := false
  haltCause := .none
  faultAddress := 0
  rqRing := Ring.reset
  cqRing := Ring.reset
  tracker := []
  forgotten := []
  writeQueue := []
  interruptOwed := none

/-- The part right after power-on: every block at the values of its reset rule (R179). -/
def State.reset : State where
  hau := HostAccess.reset
  rp := RequestProcessor.reset
  st := Vector.replicate 64 StreamRecord.reset
  te := TransmitEngine.reset
  re := ReceiveEngine.reset
  ft := []
  lm := LinkManager.reset
  cp := CompletionPoster.reset
  emitted := []
  pending := []

end Sys2Proof.Machine
end

