-- ==== Sys2Proof/Machine/Flags.lean ====
section
/-! DEFINITION. What the blocks compute from the state without changing it: ring geometry and the derived
CQ_HEAD, free slots, the interrupt condition, the claims of the slot arbiter, the STATUS word, and the
positions of MSNs in the windows. -/

namespace Sys2Proof.Machine

/-- Add 1 to a counter that saturates at its maximum (Conventions, counters). -/
def satInc {w : Nat} (c : BitVec w) : BitVec w :=
  if c = BitVec.allOnes w then c else c + 1

/-- The numbers 0 to 63 (or 0 to 3) in turn, starting with the one after `p` and wrapping, `p` last. -/
def turnAfter {n : Nat} [NeZero n] (p : Fin n) : List (Fin n) :=
  (List.finRange n).map fun k => p + 1 + k

/-! ### Access by number -/

/-- The record of a stream (R1). -/
def State.stream (s : State) (i : StreamId) : StreamRecord := s.st[i]
/-- The Transmit Engine's state of a stream (R26). -/
def State.txs (s : State) (i : StreamId) : TxStream := s.te.tx[i]
/-- The Receive Engine's state of a stream (R69). -/
def State.rxs (s : State) (i : StreamId) : RxStream := s.re.rx[i]
/-- A lane controller (R108). -/
def State.lane (s : State) (l : LaneId) : Lane := s.lm.lanes[l]
/-- A slicer slot (R31). -/
def State.slot (s : State) (k : SlotId) : Option SlotWork := s.te.slots[k]

/-! ### Rings and counts -/

/-- The number of positions of a ring, 2^order (R134, R154). -/
def Ring.size (r : Ring) : Nat := 2 ^ r.order.toNat

/-- The base address of a ring: bits 63 to 12 as stored, the low twelve bits 0 (R176). -/
def Ring.baseAddress (r : Ring) : HostAddr := r.base ++ 0#12

/-- The value a read of a ring register returns (R196). -/
def Ring.word (r : Ring) : BitVec 64 := (r.base ++ 0#8) ++ r.order

/-- The size of the request ring. -/
def State.rqSize (s : State) : Nat := s.hau.rqRing.size
/-- The size of the completion ring. -/
def State.cqSize (s : State) : Nat := s.hau.cqRing.size

/-- The host address of a position of the request ring: base + 64·k (R134), modulo 2^64 (DESIGN CHOICE,
assumption 22). -/
def State.rqAddress (s : State) (k : Nat) : HostAddr :=
  s.hau.rqRing.baseAddress + BitVec.ofNat 64 (Config.requestBytes * k)

/-- The host address of a slot of the completion ring: base + 32·k (R154), modulo 2^64 (DESIGN CHOICE,
assumption 22). -/
def State.cqAddress (s : State) (k : Nat) : HostAddr :=
  s.hau.cqRing.baseAddress + BitVec.ofNat 64 (Config.completionBytes * k)

/-- `CQ_HEAD`: (tail − unconsumed) modulo the ring size (R156, R177). -/
def State.cqHead (s : State) : Nat :=
  (s.cp.tail + (s.cqSize - s.cp.unconsumed % s.cqSize)) % s.cqSize

/-- The number of free completion slots (R156). -/
def State.freeSlots (s : State) : Nat := s.cqSize - s.cp.unconsumed - s.cp.reserved

/-- A write of the write queue is a record write. -/
def HostWrite.isRecord : HostWrite → Bool
  | .record _ => true
  | .data _ _ _ => false

/-- The completion records not yet written: those in the backlog and those in the write queue (R188). -/
def State.unwrittenRecords (s : State) : Nat :=
  s.cp.backlog.length + (s.hau.writeQueue.filter HostWrite.isRecord).length

/-- The interrupt condition (R187). -/
def State.interruptCondition (s : State) : Bool :=
  s.hau.intEnable && (decide (0 < s.cp.unconsumed) || decide (s.hau.engine = .halted))

/-- The read tracker has room for another read (R180). -/
def State.trackerRoom (s : State) : Bool := decide (s.hau.tracker.length < Config.trackerSize)

/-- The write queue has room (R183). -/
def State.writeRoom (s : State) : Bool := decide (s.hau.writeQueue.length < Config.writeQueueLimit)

/-- The engine is HALTED. -/
def State.isHalted (s : State) : Bool := decide (s.hau.engine = .halted)

/-! ### Lanes and link -/

/-- Some lane is UP (R123). -/
def State.anyLaneUp (s : State) : Bool := s.lm.lanes.toList.any fun l => decide (l.state = .up)

/-- The lanes-up mask: bit k is set when lane k is UP (R124, R194). -/
def State.lanesUp (s : State) : BitVec 4 :=
  BitVec.ofNat 4 (((List.finRange 4).map fun l =>
    if (s.lane l).state = .up then 2 ^ l.val else 0).sum)

/-- A lane has room (R108). -/
def Lane.hasRoom (l : Lane) : Bool := decide (l.txQueue.length < Config.laneQueueLimit)

/-! ### Transmit lists -/

/-- The number of slices of a message: ceil(length / 256) (R26, R33). -/
def SendEntry.slices (e : SendEntry) : Nat := (e.length + (Config.sliceBytes - 1)) / Config.sliceBytes

/-- The number of message bytes slice `i` of the entry carries (R33). -/
def SendEntry.sliceLength (e : SendEntry) (i : Nat) : Nat :=
  min Config.sliceBytes (e.length - Config.sliceBytes * i)

/-- The entry is ACKED or FAILED, so it retires when it is the head (R46). -/
def SendEntry.finished (e : SendEntry) : Bool :=
  match e.state with
  | .acked => true
  | .failed _ => true
  | _ => false

/-- The status of a finished entry's REQUEST_DONE (R47). -/
def SendEntry.status (e : SendEntry) : Status :=
  match e.state with
  | .failed f => .sendFailed f
  | _ => .success

/-- The position of the entry for an MSN: (m − head MSN) mod 256 (R28). -/
def TxStream.position (t : TxStream) (m : Msn) : Nat :=
  match t.list with
  | [] => 0
  | e :: _ => (m - e.msn).toNat

/-- The entry for an MSN, if the list holds one (R28). -/
def TxStream.locate (t : TxStream) (m : Msn) : Option SendEntry := t.list[t.position m]?

/-- The entry for an MSN, if it stands among the first eight (R41). -/
def TxStream.locateInWindow (t : TxStream) (m : Msn) : Option SendEntry :=
  if t.position m < Config.windowSize then t.locate m else none

/-- The MSN of the head, or `tx_next` if the list is empty (R53). -/
def TxStream.headMsn (t : TxStream) : Msn :=
  match t.list with
  | [] => t.txNext
  | e :: _ => e.msn

/-- The send entries held across all transmit lists (R27). -/
def State.sendEntries (s : State) : Nat := (s.te.tx.toList.map fun t => t.list.length).sum

/-- A slicer slot holds the entry of this stream and MSN. -/
def SlotWork.holds (w : SlotWork) (i : StreamId) (m : Msn) : Bool := decide (w.stream = i ∧ w.msn = m)

/-- The slicer slot that holds the entry of this stream and MSN, if one does (R31). -/
def State.slotWorkOf (s : State) (i : StreamId) (m : Msn) : Option SlotWork :=
  (s.te.slots.toList.filterMap id).find? fun w => w.holds i m

/-- The attempt of the entry's current transmission: the slot's for a SENDING entry, the entry's own otherwise
(R43). -/
def State.currentAttempt (s : State) (i : StreamId) (e : SendEntry) : Attempt :=
  match s.slotWorkOf i e.msn with
  | some w => if e.state = .sending then w.attempt else e.attempt
  | none => e.attempt

/-! ### Receive side -/

/-- The position of an MSN in a stream's receive window: (m − rx_expected) mod 256 (R69). -/
def RxStream.position (r : RxStream) (m : Msn) : Nat := (m - r.rxExpected).toNat

/-- The contexts of a stream, in the order the model keeps them. -/
def State.contextsOf (s : State) (i : StreamId) : List ReContext :=
  s.re.contexts.filter fun c => decide (c.stream = i)

/-- The context of a stream for an MSN, if the stream holds one (R71, R77). -/
def State.contextFor (s : State) (i : StreamId) (m : Msn) : Option ReContext :=
  s.re.contexts.find? fun c => decide (c.stream = i ∧ c.msn = m)

/-- The contexts of a stream in MSN order, that is by position in the window (R69). -/
def State.contextsInOrder (s : State) (i : StreamId) : List ReContext :=
  (s.contextsOf i).insertionSort fun a b => (s.rxs i).position a.msn ≤ (s.rxs i).position b.msn

/-- The context is ready for delivery: COMPLETE, or OVERSIZE with no write outstanding (R85). -/
def ReContext.ready (c : ReContext) : Bool :=
  match c.state with
  | .complete => true
  | .oversize => decide (c.writesOutstanding = 0)
  | _ => false

/-- The buffer entries that are not FREE: listed, bound and releasing ones (R56, R57). -/
def State.buffersInUse (s : State) : Nat :=
  (s.re.rx.toList.map fun r => r.bufferList.length + r.releaseList.length).sum + s.re.contexts.length

/-! ### Claims on completion slots -/

/-- The lowest stream with a recorded event, if any (R161, rank 2). -/
def State.eventClaim (s : State) : Option StreamId :=
  (List.finRange 64).find? fun i => (s.stream i).event.isSome

/-- The next stream after `release_pointer` whose release list is not empty, if any (R163, rank 3). -/
def State.releaseClaim (s : State) : Option StreamId :=
  (turnAfter s.cp.releasePointer).find? fun i => !(s.rxs i).releaseList.isEmpty

/-- The Request Processor's standing wish for a reservation (R136, rank 4). -/
def State.requestWish (s : State) : Bool :=
  decide (s.rp.taking = .idle ∧ s.hau.engine = .running ∧ s.rp.rqTail ≠ s.rp.rqHead)

/-- The arbiter can make a grant: a slot is free and the engine is not HALTED (R161). -/
def State.canGrant (s : State) : Bool := decide (0 < s.freeSlots) && !s.isHalted

/-! ### The register window, read side -/

/-- The two-bit code of the engine state (R196). -/
def EngineState.code : EngineState → BitVec 2
  | .stopped => 0
  | .running => 1
  | .halted => 2

/-- The two-bit code of the halt cause (R196). -/
def HaltCause.code : HaltCause → BitVec 2
  | .none => 0
  | .readError => 1
  | .readTimeout => 2

/-- The STATUS word (R174, R196). -/
def State.statusWord (s : State) : BitVec 32 :=
  (0#20 ++ s.lanesUp ++ 0#2 ++ BitVec.ofBool (decide (s.lm.linkState = .up))
    ++ BitVec.ofBool s.rp.config.configured ++ s.hau.haltCause.code ++ s.hau.engine.code).setWidth 32

/-- The CONTROL word: bit 0 ENABLE, bit 1 RESET (reads 0), bit 2 INT_ENABLE (R175, R196). -/
def State.controlWord (s : State) : BitVec 32 :=
  (0#29 ++ BitVec.ofBool s.hau.intEnable ++ 0#1 ++ BitVec.ofBool s.hau.enable).setWidth 32

/-- What a read access of the register window returns (R173, R174, R177, R196). An access that is no register
access reads 0. A read changes nothing, so it is no command. -/
def State.readRegister (s : State) (offset size : Nat) : BitVec 64 :=
  if size = 4 then
    if offset = 0x00 then Config.ident.setWidth 64
    else if offset = 0x04 then s.controlWord.setWidth 64
    else if offset = 0x08 then s.statusWord.setWidth 64
    else if offset = 0x10 then (s.hau.rqRing.word.setWidth 32).setWidth 64
    else if offset = 0x14 then s.hau.rqRing.word >>> 32
    else if offset = 0x18 then (s.hau.cqRing.word.setWidth 32).setWidth 64
    else if offset = 0x1C then s.hau.cqRing.word >>> 32
    else if offset = 0x20 then BitVec.ofNat 64 s.rp.rqTail
    else if offset = 0x24 then BitVec.ofNat 64 s.rp.rqHead
    else if offset = 0x28 then BitVec.ofNat 64 s.cqHead
    else if offset = 0x30 then (s.hau.faultAddress.setWidth 32).setWidth 64
    else if offset = 0x34 then s.hau.faultAddress >>> 32
    else 0
  else if size = 8 then
    if offset = 0x10 then s.hau.rqRing.word
    else if offset = 0x18 then s.hau.cqRing.word
    else if offset = 0x30 then s.hau.faultAddress
    else 0
  else 0

end Sys2Proof.Machine
end

