-- ==== Sys2Proof/Machine/Ops.lean ====
section
/-! DEFINITION. The named operations every block shares: writing one record of the state, posting completion
records, owing interrupts, producing notices, timers, and host memory reads. Each follows one rule of the
manual and is written once. -/

namespace Sys2Proof.Machine

/-! ### Writing one record -/

/-- Replace a stream record. -/
def State.setStream (s : State) (i : StreamId) (r : StreamRecord) : State := { s with st := s.st.set i r }
/-- Replace the Transmit Engine's state of a stream. -/
def State.setTxs (s : State) (i : StreamId) (t : TxStream) : State := { s with te.tx := s.te.tx.set i t }
/-- Replace the Receive Engine's state of a stream. -/
def State.setRxs (s : State) (i : StreamId) (r : RxStream) : State := { s with re.rx := s.re.rx.set i r }
/-- Replace a lane controller. -/
def State.setLane (s : State) (l : LaneId) (r : Lane) : State := { s with lm.lanes := s.lm.lanes.set l r }
/-- Replace the contents of a slicer slot. -/
def State.setSlot (s : State) (k : SlotId) (w : Option SlotWork) : State :=
  { s with te.slots := s.te.slots.set k w }
/-- Something leaves the part at its pins. -/
def State.emit (s : State) (e : Emission) : State := { s with emitted := e :: s.emitted }

/-! ### Timers -/

/-- A running timer keeps its remaining time and stops counting (R38). -/
def Timer.suspend : Timer → Timer
  | .running r => .suspended r
  | t => t

/-- A suspended timer continues from its remaining time (R38, R51). -/
def Timer.resume : Timer → Timer
  | .suspended r => .running r
  | t => t

/-- The timer counts, so it can expire. -/
def Timer.isRunning : Timer → Bool
  | .running _ => true
  | _ => false

/-- Suspend both timers of a send entry (R50, R54). -/
def SendEntry.suspendTimers (e : SendEntry) : SendEntry :=
  { e with ackTimer := e.ackTimer.suspend, holdoffTimer := e.holdoffTimer.suspend }

/-- Resume both timers of a send entry (R51). -/
def SendEntry.resumeTimers (e : SendEntry) : SendEntry :=
  { e with ackTimer := e.ackTimer.resume, holdoffTimer := e.holdoffTimer.resume }

/-- Cancel both timers of a send entry (R42, R44, R49). -/
def SendEntry.cancelTimers (e : SendEntry) : SendEntry :=
  { e with ackTimer := .stopped, holdoffTimer := .stopped }

/-! ### Interrupt (R187, R188) -/

/-- An interrupt becomes owed: it awaits the departure of every record not yet written (R188). -/
def State.oweInterrupt (s : State) : State := { s with hau.interruptOwed := some s.unwrittenRecords }

/-- Judge the interrupt condition after an event, given what it was before: false to true owes an interrupt,
a false condition cancels one (R187). -/
def State.judgeInterrupt (before : Bool) (s : State) : State :=
  if s.interruptCondition then (if before then s else s.oweInterrupt)
  else { s with hau.interruptOwed := none }

/-! ### Posting (R158, R160) -/

/-- Post a record: it takes the tail slot and the phase, `unconsumed` rises, `tail` advances, the phase
changes at a wrap, the record joins the backlog, and the interrupt condition is judged (R158, R187). -/
def State.postRecord (c : Completion) (s : State) : State :=
  let tail := (s.cp.tail + 1) % s.cqSize
  State.judgeInterrupt s.interruptCondition
    { s with
      cp.backlog := s.cp.backlog ++ [⟨s.cqAddress s.cp.tail, s.cp.phase, c⟩]
      cp.unconsumed := s.cp.unconsumed + 1
      cp.tail := tail
      cp.phase := if tail = 0 then !s.cp.phase else s.cp.phase }

/-- A reservation is given up: by a posting into it or by its return (R160). -/
def State.releaseReservation (s : State) : State := { s with cp.reserved := s.cp.reserved - 1 }

/-- Post a reserved completion: its reserved slot becomes an unconsumed one (R158, R160). -/
def State.postReserved (c : Completion) (s : State) : State := s.releaseReservation.postRecord c

/-- The code of a request kind (R195). -/
inductive RequestKind where
  | configure
  | openStream
  | closeStream
  | send
  | post
  | fence
  | queryStream
  | queryLink
deriving DecidableEq, Repr

/-- The request kind codes (R195). -/
def RequestKind.code : RequestKind → Byte
  | .configure => 0x01
  | .openStream => 0x02
  | .closeStream => 0x03
  | .send => 0x04
  | .post => 0x05
  | .fence => 0x06
  | .queryStream => 0x07
  | .queryLink => 0x08

/-- The stream byte of a record that names a stream. -/
def streamByte (i : StreamId) : Byte := BitVec.ofNat 8 i.val

/-- Post the REQUEST_DONE of a request on a stream into its reserved slot (R145, R167). -/
def State.postDone (kind : RequestKind) (i : StreamId) (tag : Tag) (status : Status) (body : DoneBody)
    (s : State) : State :=
  s.postReserved (.requestDone kind.code (streamByte i) tag status body)

/-! ### Notices (R125) -/

/-- A notice is produced: it joins the tail of the notice queue, or is discarded when the link is DOWN or the
queue holds 32 notices (R125). -/
def State.produceNotice (n : Notice) (s : State) : State :=
  if s.lm.linkState = .up ∧ s.lm.noticeQueue.length < Config.noticeQueueLimit then
    { s with lm.noticeQueue := s.lm.noticeQueue ++ [n] }
  else s

/-! ### Host memory reads (R180, R182) -/

/-- The PCIe transaction identifier a new read takes. The manual asks only that no outstanding and no forgotten
read holds it (R182), so it is a free value: whatever `Config.readIdentifier` gives for this point of the run if
no such read holds it, else the smallest that none holds (assumption 1). -/
def State.freshReadId (s : State) : Nat :=
  let used := s.hau.tracker.map ReadEntry.id ++ s.hau.forgotten
  let proposed := Config.readIdentifier s.emitted.length
  if used.contains proposed then ((List.range (used.length + 1)).find? fun n => !used.contains n).getD 0
  else proposed

/-- Issue a host memory read: an entry joins the tracker, its 50 ms timer starts, and the read request leaves
for the port (R180). -/
def State.issueRead (owner : ReadOwner) (address : HostAddr) (length : Nat) (s : State) : State :=
  let entry : ReadEntry := ⟨s.freshReadId, owner, address, length, [], .running Config.readTimeout⟩
  State.emit { s with hau.tracker := s.hau.tracker ++ [entry] } (.hostRead s.freshReadId address length)

/-- The Request Processor issues the record read and enters READING (R138). -/
def State.issueRecordRead (s : State) : State :=
  { s.issueRead .requestProcessor (s.rqAddress s.rp.rqHead) Config.requestBytes with
    rp.taking := .reading false }

/-- A completion part of a tracked read brings `data`; bytes beyond the read's length are none of it. -/
def ReadEntry.receive (r : ReadEntry) (data : List Byte) : ReadEntry :=
  { r with received := (r.received ++ data).take r.length }

/-- All bytes of the read have arrived (R180). -/
def ReadEntry.complete (r : ReadEntry) : Bool := decide (r.length ≤ r.received.length)

/-- The read of the Request Processor, if one is outstanding. -/
def State.recordRead (s : State) : Option ReadEntry :=
  s.hau.tracker.find? fun r => decide (r.owner = .requestProcessor)

/-- The outstanding read with this transaction identifier, if one is. -/
def State.readOf (s : State) (id : Nat) : Option ReadEntry :=
  s.hau.tracker.find? fun r => decide (r.id = id)

/-- The entry of a read leaves the tracker (R180). -/
def State.dropRead (id : Nat) (s : State) : State :=
  { s with hau.tracker := s.hau.tracker.filter fun r => decide (r.id ≠ id) }

/-- The entry of a read takes new contents. -/
def State.updateRead (id : Nat) (r : ReadEntry) (s : State) : State :=
  { s with hau.tracker := s.hau.tracker.map fun q => if q.id = id then r else q }

/-! ### Transmit lists -/

/-- Replace the transmit list of a stream. -/
def State.setList (s : State) (i : StreamId) (l : List SendEntry) : State :=
  s.setTxs i { s.txs i with list := l }

/-- Replace the entry that an MSN locates (R28). -/
def State.setEntry (s : State) (i : StreamId) (m : Msn) (e : SendEntry) : State :=
  s.setList i ((s.txs i).list.set ((s.txs i).position m) e)

/-- The slicer slot that holds the entry of this stream and MSN becomes free, its places with it (R31). -/
def State.freeSlotOf (s : State) (i : StreamId) (m : Msn) : State :=
  { s with te.slots := s.te.slots.map fun o => o.bind fun w => if w.holds i m then none else some w }

/-- Every slicer slot that holds an entry of this stream becomes free (R49). -/
def State.freeSlotsOfStream (s : State) (i : StreamId) : State :=
  { s with te.slots := s.te.slots.map fun o => o.bind fun w => if w.stream = i then none else some w }

/-! ### Stream counters -/

/-- Count a stray of a stream (R93). -/
def State.countStray (s : State) (i : StreamId) : State :=
  s.setRxs i { s.rxs i with straysDropped := satInc (s.rxs i).straysDropped }

/-! ### Stream events (R23) -/

/-- Record a stream event: it fills an empty field with a merge count of 1, or replaces an unposted event and
adds 1 to its count, saturating (R23). -/
def State.recordEvent (i : StreamId) (kind : EventKind) (gen : Gen) (s : State) : State :=
  let count : BitVec 8 :=
    match (s.stream i).event with
    | none => 1
    | some e => satInc e.count
  s.setStream i { s.stream i with event := some ⟨kind, gen, count⟩ }

/-- Produce SYNC(`gen`), count it in `sync_sent` and start `sync_timer` with the configured interval (R5,
R6). -/
def State.sendSync (i : StreamId) (s : State) : State :=
  let r := s.stream i
  (s.setStream i
    { r with syncSent := satInc r.syncSent, syncTimer := .running s.rp.config.syncInterval }).produceNotice
    (.sync i r.gen)

end Sys2Proof.Machine
end

