-- ==== Sys2Proof/Machine/Operands.lean ====
section
/-! DEFINITION. The formats of Chapter 11: bytes of a field, the CRC, the layouts and the validity of link
units, request records as they are read and checked, and the layout of completion records. -/

namespace Sys2Proof.Machine

/-! ### Fields -/

/-- The low `n` bytes of a number, least significant first (host-memory records and registers). -/
def leBytes : Nat → Nat → List Byte
  | 0, _ => []
  | n + 1, v => BitVec.ofNat 8 v :: leBytes n (v / 256)

/-- The number that bytes spell, least significant first. -/
def leNat : List Byte → Nat
  | [] => 0
  | b :: bs => b.toNat + 256 * leNat bs

/-- The bytes of a record from position `k`, `n` of them; a missing byte counts as 0. -/
def field (bs : List Byte) (k n : Nat) : List Byte := (List.range n).map fun j => bs.getD (k + j) 0

/-- One byte of a record; a missing byte counts as 0. -/
def byteAt (bs : List Byte) (k : Nat) : Byte := bs.getD k 0

/-! ### CRC (R190) -/

/-- One bit of the CRC: the register shifts toward its low end and takes the reflected polynomial when the bit
shifted out differs from the incoming bit (R190, step 2). -/
def crcBit (r : BitVec 32) (bit : Bool) : BitVec 32 :=
  if r.getLsbD 0 != bit then (r >>> 1) ^^^ 0x82F63B78#32 else r >>> 1

/-- One byte of the CRC, its least significant bit first (R190, step 2). -/
def crcByte (r : BitVec 32) (b : Byte) : BitVec 32 :=
  (List.range 8).foldl (fun r k => crcBit r (b.getLsbD k)) r

/-- The CRC of a unit's covered bytes (R190, steps 1 to 3). -/
def crc (bs : List Byte) : BitVec 32 := ~~~(bs.foldl crcByte 0xFFFFFFFF#32)

/-- The bytes with their CRC appended, least significant byte first (R190, step 4). -/
def withCrc (bs : List Byte) : List Byte := bs ++ leBytes 4 (crc bs).toNat

/-! ### Link units (R191, R192, R195) -/

/-- The role codes (R195). -/
def roleCode : Role → Byte
  | .a => 0x01
  | .b => 0x02

/-- The role a code names (R195). -/
def roleOf (b : Byte) : Option Role :=
  if b = 0x01 then some .a else if b = 0x02 then some .b else none

/-- The DEFER reason codes (R195). -/
def deferCode : DeferReason → Byte
  | .noBuffer => 0x01
  | .noContext => 0x02

/-- The DEFER reason a code names (R195). -/
def deferOf (b : Byte) : Option DeferReason :=
  if b = 0x01 then some .noBuffer else if b = 0x02 then some .noContext else none

/-- The REJECT reason codes (R195). -/
def rejectCode : RejectReason → Byte
  | .notOpen => 0x01
  | .tooLong => 0x02

/-- The REJECT reason a code names (R195). -/
def rejectOf (b : Byte) : Option RejectReason :=
  if b = 0x01 then some .notOpen else if b = 0x02 then some .tooLong else none

/-- A generation in bits 3 to 0 of its byte, the rest reserved and sent as zero (R191). -/
def genByte (g : Gen) : Byte := 0#4 ++ g

/-- Byte 2 of a SLICE: generation in bits 3 to 0, attempt in bits 6 to 4, last mark in bit 7 (R191). -/
def sliceByte (g : Gen) (a : Attempt) (last : Bool) : Byte := (BitVec.ofBool last ++ a) ++ g

/-- The covered bytes of a notice (R191). -/
def Notice.body : Notice → List Byte
  | .sync i g => [0x61, streamByte i, genByte g, 0]
  | .syncAck i g => [0x62, streamByte i, genByte g, 0]
  | .ack i g m => [0x71, streamByte i, genByte g, m]
  | .defer i g m a r => [0x72, streamByte i, genByte g, m, 0#5 ++ a, deferCode r, 0, 0]
  | .reject i g m r => [0x73, streamByte i, genByte g, m, rejectCode r, 0, 0, 0]

/-- The covered bytes of a unit: everything before its CRC (R191). -/
def LinkUnit.body : LinkUnit → List Byte
  | .align role epoch ready => [0x3C, roleCode role, epoch, if ready then 0x01 else 0x00]
  | .idle => [0x0F, 0, 0, 0]
  | .slice u =>
    [0x5A, streamByte u.stream, sliceByte u.gen u.attempt u.last, u.msn, u.index, 0,
      BitVec.ofNat 8 (u.payload.length / 256), BitVec.ofNat 8 u.payload.length] ++ u.payload
  | .notice n => n.body

/-- A unit as it leaves on a lane: its covered bytes and their CRC (R190, R191). -/
def LinkUnit.bytes (u : LinkUnit) : List Byte := withCrc u.body

/-- The stream a byte names, if it is a stream number (R192). -/
def streamOf (b : Byte) : Option StreamId :=
  if h : b.toNat < 64 then some ⟨b.toNat, h⟩ else none

/-- The unit that covered bytes spell, if they are well formed (R192). Reserved bits are not looked at. -/
def unitOfBody (bs : List Byte) : Option LinkUnit :=
  let gen : Gen := (byteAt bs 2).setWidth 4
  let msn := byteAt bs 3
  if byteAt bs 0 = 0x3C then
    if bs.length = 4 then
      match roleOf (byteAt bs 1) with
      | none => none
      | some role =>
        if byteAt bs 2 = 0 then none
        else if byteAt bs 3 = 0x00 then some (.align role (byteAt bs 2) false)
        else if byteAt bs 3 = 0x01 then some (.align role (byteAt bs 2) true)
        else none
    else none
  else if byteAt bs 0 = 0x0F then if bs.length = 4 then some .idle else none
  else
    match streamOf (byteAt bs 1) with
    | none => none
    | some i =>
      if byteAt bs 0 = 0x5A then
        let n := 256 * (byteAt bs 6).toNat + (byteAt bs 7).toNat
        if n ≤ Config.sliceBytes ∧ bs.length = 8 + n then
          some (.slice ⟨i, gen, msn, ((byteAt bs 2) >>> 4).setWidth 3, byteAt bs 4,
            (byteAt bs 2).getLsbD 7, bs.drop 8⟩)
        else none
      else if byteAt bs 0 = 0x61 then if bs.length = 4 then some (.notice (.sync i gen)) else none
      else if byteAt bs 0 = 0x62 then if bs.length = 4 then some (.notice (.syncAck i gen)) else none
      else if byteAt bs 0 = 0x71 then if bs.length = 4 then some (.notice (.ack i gen msn)) else none
      else if byteAt bs 0 = 0x72 then
        if bs.length = 8 then
          (deferOf (byteAt bs 5)).map fun r => .notice (.defer i gen msn ((byteAt bs 4).setWidth 3) r)
        else none
      else if byteAt bs 0 = 0x73 then
        if bs.length = 8 then (rejectOf (byteAt bs 4)).map fun r => .notice (.reject i gen msn r)
        else none
      else none

/-- Judge received bytes: the unit they are if they are good, nothing if they are bad (R111, R190, R192). The
last four bytes are the CRC of those before them. -/
def judgeUnit (bs : List Byte) : Option LinkUnit :=
  let body := bs.take (bs.length - 4)
  if 4 ≤ bs.length ∧ bs = withCrc body then unitOfBody body else none

/-- The command that received bytes are on a lane (R111, R113): the reception of the good unit they spell, or
of a bad unit. -/
def receptionOf (l : LaneId) (bs : List Byte) : Instr :=
  match judgeUnit bs with
  | none => .badUnitReceived l
  | some (.align role epoch ready) => .alignReceived l role epoch ready
  | some .idle => .idleReceived l
  | some (.slice u) => .sliceReceived l u.stream u.gen u.msn u.attempt u.index u.last u.payload
  | some (.notice (.sync i g)) => .syncReceived l i g
  | some (.notice (.syncAck i g)) => .syncAckReceived l i g
  | some (.notice (.ack i g m)) => .ackReceived l i g m
  | some (.notice (.defer i g m a r)) => .deferReceived l i g m a r
  | some (.notice (.reject i g m .tooLong)) => .rejectTooLongReceived l i g m
  | some (.notice (.reject i g m .notOpen)) => .rejectNotOpenReceived l i g m

/-! ### Marks on a lane (R190) -/

/-- What a lane carries: the marks around a unit, and its bytes (R190). -/
inductive LineSymbol where
  | startMark
  | byte (value : Byte)
  | endMark
deriving DecidableEq, Repr

/-- A unit as it is sent: a start mark, its bytes from byte 0 upward, an end mark (R190). -/
def LinkUnit.onLine (x : LinkUnit) : List LineSymbol :=
  .startMark :: x.bytes.map LineSymbol.byte ++ [.endMark]

/-- The units taken as received from what a lane carries, given the bytes gathered since a start mark, if one came:
a unit ends at its end mark or at a new start mark, and bytes without a start mark before them are none (R190).
DESIGN CHOICE: a unit that a new start mark ends is judged by its bytes alone, so that it is good where nothing but
its end mark was lost (assumption 24). -/
def unitsOnLine : Option (List Byte) → List LineSymbol → List (List Byte)
  | _, [] => []
  | none, .startMark :: rest => unitsOnLine (some []) rest
  | none, .byte _ :: rest => unitsOnLine none rest
  | none, .endMark :: rest => unitsOnLine none rest
  | some bs, .startMark :: rest => bs :: unitsOnLine (some []) rest
  | some bs, .byte b :: rest => unitsOnLine (some (bs ++ [b])) rest
  | some bs, .endMark :: rest => bs :: unitsOnLine none rest

/-! ### Request records (R142, R143, R193) -/

/-- The kind-specific fields of a request record as read, unchecked (R193). -/
inductive RequestBody where
  | unknown
  | configure (laneMask role epoch retryLimit : Byte) (ackTimeout deferHoldoff syncInterval : BitVec 16)
  | openStream
  | closeStream (mode : Byte)
  | send (address : HostAddr) (length : BitVec 16)
  | post (address : HostAddr) (capacity : BitVec 16)
  | fence (scope : Byte)
  | queryStream (clear : Byte)
  | queryLink (clear : Byte)
deriving DecidableEq, Repr

/-- A request record as read: the common fields, the fields of its kind, and whether every byte that belongs
to no field is zero (R193). -/
structure RequestRecord where
  kind : Byte
  stream : Byte
  tag : Tag
  body : RequestBody
  restZero : Bool
deriving DecidableEq, Repr

/-- A request that has passed the checks of R142, its fields in range (R143). -/
inductive Request where
  | configure (laneMask : BitVec 4) (role : Role) (epoch : Byte)
      (ackTimeout retryLimit deferHoldoff syncInterval : Nat)
  | openStream (stream : StreamId)
  | closeStream (stream : StreamId) (mode : CloseMode)
  | send (stream : StreamId) (address : HostAddr) (length : Nat)
  | post (stream : StreamId) (address : HostAddr) (capacity : Nat)
  | fence (scope : FenceScope)
  | queryStream (stream : StreamId) (clear : Bool)
  | queryLink (clear : Bool)
deriving DecidableEq, Repr

/-- The bytes of a kind's own fields, from byte 8 on (R193). -/
def RequestBody.bytes : RequestBody → List Byte
  | .unknown => []
  | .configure lm ro ep rl ack hold sync =>
    [lm, ro, ep, rl] ++ leBytes 2 ack.toNat ++ leBytes 2 hold.toNat ++ leBytes 2 sync.toNat
  | .openStream => []
  | .closeStream mode => [mode]
  | .send a n => leBytes 8 a.toNat ++ leBytes 2 n.toNat
  | .post a n => leBytes 8 a.toNat ++ leBytes 2 n.toNat
  | .fence scope => [scope]
  | .queryStream clear => [clear]
  | .queryLink clear => [clear]

/-- The 64 bytes of a request record whose reserved bytes are zero (R193). -/
def RequestRecord.bytes (r : RequestRecord) : List Byte :=
  let used := [r.kind, r.stream, 0, 0] ++ leBytes 4 r.tag.toNat ++ r.body.bytes
  used ++ List.replicate (Config.requestBytes - used.length) 0

/-- The kind-specific fields of a record's bytes (R193, R195). -/
def bodyOf (bs : List Byte) : RequestBody :=
  let word (k : Nat) : BitVec 16 := BitVec.ofNat 16 (leNat (field bs k 2))
  let address : HostAddr := BitVec.ofNat 64 (leNat (field bs 8 8))
  if byteAt bs 0 = 0x01 then
    .configure (byteAt bs 8) (byteAt bs 9) (byteAt bs 10) (byteAt bs 11) (word 12) (word 14) (word 16)
  else if byteAt bs 0 = 0x02 then .openStream
  else if byteAt bs 0 = 0x03 then .closeStream (byteAt bs 8)
  else if byteAt bs 0 = 0x04 then .send address (word 16)
  else if byteAt bs 0 = 0x05 then .post address (word 16)
  else if byteAt bs 0 = 0x06 then .fence (byteAt bs 8)
  else if byteAt bs 0 = 0x07 then .queryStream (byteAt bs 8)
  else if byteAt bs 0 = 0x08 then .queryLink (byteAt bs 8)
  else .unknown

/-- The request record that 64 bytes spell (R193): bytes 2 and 3 and all bytes after the fields of the kind
are reserved. -/
def recordOf (bs : List Byte) : RequestRecord :=
  let body := bodyOf bs
  { kind := byteAt bs 0
    stream := byteAt bs 1
    tag := BitVec.ofNat 32 (leNat (field bs 4 4))
    body := body
    restZero := decide (byteAt bs 2 = 0 ∧ byteAt bs 3 = 0)
      && (bs.drop (8 + body.bytes.length)).all fun b => decide (b = 0) }

/-- Step 2 of R142: every byte and bit that the kind's layout marks reserved is zero. The stream field is
reserved for CONFIGURE, QUERY_LINK and FENCE of scope ALL, and bits 7 to 4 of a lane mask are (R193). -/
def RequestRecord.reservedZero (r : RequestRecord) : Bool :=
  r.restZero &&
    match r.body with
    | .configure lm _ _ _ _ _ _ => decide (r.stream = 0 ∧ lm >>> 4 = 0)
    | .fence scope => decide (scope = 0x02 → r.stream = 0)
    | .queryLink _ => decide (r.stream = 0)
    | _ => true

/-- The CLOSE mode a code names (R195). -/
def closeModeOf (b : Byte) : Option CloseMode :=
  if b = 0x01 then some .graceful else if b = 0x02 then some .immediate else none

/-- The clear flag a byte names (R143). -/
def clearOf (b : Byte) : Option Bool :=
  if b = 0x00 then some false else if b = 0x01 then some true else none

/-- A message length or buffer capacity in its range, 1 to 16384 (R143). -/
def messageBytesOf (n : BitVec 16) : Option Nat :=
  if 1 ≤ n.toNat ∧ n.toNat ≤ 16384 then some n.toNat else none

/-- Steps 1, 3 and 4 of R142 with the ranges of R143, on a record whose reserved fields are zero. -/
def RequestRecord.inRange (r : RequestRecord) : Option Request :=
  match r.body with
  | .unknown => none
  | .configure lm ro ep rl ack hold sync =>
    match roleOf ro with
    | none => none
    | some role =>
      if lm.setWidth 4 ≠ 0#4 ∧ ep ≠ 0 ∧ 10 ≤ ack.toNat ∧ 1 ≤ rl.toNat ∧ rl.toNat ≤ 7
          ∧ 1 ≤ hold.toNat ∧ 100 ≤ sync.toNat then
        some (.configure (lm.setWidth 4) role ep ack.toNat rl.toNat hold.toNat sync.toNat)
      else none
  | .openStream => (streamOf r.stream).map .openStream
  | .closeStream mode =>
    match streamOf r.stream, closeModeOf mode with
    | some i, some m => some (.closeStream i m)
    | _, _ => none
  | .send a n =>
    match streamOf r.stream, messageBytesOf n with
    | some i, some k => some (.send i a k)
    | _, _ => none
  | .post a n =>
    match streamOf r.stream, messageBytesOf n with
    | some i, some k => some (.post i a k)
    | _, _ => none
  | .fence scope =>
    if scope = 0x02 then some (.fence .all)
    else if scope = 0x01 then (streamOf r.stream).map fun i => .fence (.one i)
    else none
  | .queryStream clear =>
    match streamOf r.stream, clearOf clear with
    | some i, some c => some (.queryStream i c)
    | _, _ => none
  | .queryLink clear => (clearOf clear).map .queryLink

/-- The checks of R142: the request a record is, or nothing where it is refused BAD_REQUEST. All four steps
refuse with that one status, so their order shows nowhere. -/
def RequestRecord.check (r : RequestRecord) : Option Request :=
  if r.reservedZero then r.inRange else none

/-- A CONFIGURE or a QUERY_LINK, which R144 exempts from the check of the configured flag. -/
def Request.exempt : Request → Bool
  | .configure _ _ _ _ _ _ _ => true
  | .queryLink _ => true
  | _ => false

/-! ### Completion records (R194, R195) -/

/-- The CLOSE mode codes (R195). -/
def CloseMode.code : CloseMode → Byte
  | .graceful => 0x01
  | .immediate => 0x02

/-- The codes of the failure statuses of a send entry (R195). -/
def SendFailure.code : SendFailure → Byte
  | .noResponse => 0x10
  | .remoteClosed => 0x11
  | .remoteTooLong => 0x12
  | .streamFaulted => 0x13
  | .closedLocally => 0x14
  | .peerResync => 0x15
  | .peerReset => 0x16

/-- The status codes (R195). -/
def Status.code : Status → Byte
  | .success => 0x00
  | .badRequest => 0x01
  | .notConfigured => 0x02
  | .wrongState => 0x03
  | .busy => 0x04
  | .listFull => 0x05
  | .poolEmpty => 0x06
  | .fenceBusy => 0x07
  | .cancelled => 0x08
  | .sendFailed f => f.code

/-- The stream state codes (R195). -/
def StreamState.code : StreamState → Byte
  | .closed => 0x00
  | .opening => 0x01
  | .opened => 0x02
  | .draining => 0x03
  | .releasing => 0x04
  | .faulted => 0x05

/-- The lane state codes (R195). -/
def LaneState.code : LaneState → Byte
  | .off => 0x00
  | .seeking => 0x01
  | .aligned => 0x02
  | .up => 0x03

/-- The link state codes (R195). -/
def LinkState.code : LinkState → Byte
  | .down => 0x00
  | .up => 0x01

/-- The ARRIVAL status codes (R195). -/
def ArrivalStatus.code : ArrivalStatus → Byte
  | .ok => 0x00
  | .oversize => 0x01

/-- The BUFFER_RETURN reason codes (R195). -/
def ReturnReason.code : ReturnReason → Byte
  | .streamClosed => 0x01
  | .streamResync => 0x02
  | .streamFaulted => 0x03
  | .peerReset => 0x04

/-- The status code that a stream event carries as its cause, 0 for RESYNCED (R195). -/
def EventKind.causeCode : EventKind → Byte
  | .faulted .noResponse => 0x10
  | .faulted .remoteClosed => 0x11
  | .faulted .peerReset => 0x16
  | .resynced => 0x00

/-- The stream event kind codes (R195). -/
def EventKind.code : EventKind → Byte
  | .faulted _ => 0x01
  | .resynced => 0x02

/-- The scope codes (R195). -/
def FenceScope.code : FenceScope → Byte
  | .one _ => 0x01
  | .all => 0x02

/-- The bytes of a REQUEST_DONE from byte 12 on (R194). -/
def DoneBody.bytes : DoneBody → List Byte
  | .none => []
  | .openDone sent => leBytes 2 sent.toNat
  | .closeDone mode => [mode.code]
  | .sendDone m retries defers => [m, BitVec.ofNat 8 retries, defers]
  | .postDone listed => [BitVec.ofNat 8 listed]
  | .fenceDone scope failures awaited => [scope.code, 0] ++ leBytes 2 failures ++ leBytes 2 awaited
  | .streamDone r =>
    [r.state.code, genByte r.gen, r.txNext, r.headMsn, BitVec.ofNat 8 r.listLength, r.rxExpected,
      BitVec.ofNat 8 r.contextsInUse, BitVec.ofNat 8 r.buffersListed] ++ leBytes 2 r.slicesSent.toNat
      ++ leBytes 2 r.retransmissions.toNat ++ leBytes 2 r.defersReceived.toNat
      ++ leBytes 2 r.defersSent.toNat ++ leBytes 2 r.straysDropped.toNat
  | .linkDone r =>
    r.lanes.toList.flatMap (fun l => [l.state.code, l.badUnits, l.retrains])
      ++ [r.partnerEpoch, r.linkState.code, if r.roleClash then 0x01 else 0x00]

/-- The four head bytes (kind, phase, stream, status), the tag and the rest of a completion record, before the
zeros that fill it (R194). -/
def Completion.bytes (phase : Bool) : Completion → List Byte
  | .requestDone kind stream tag status body =>
    [0x01, (BitVec.ofBool phase).setWidth 8, stream, status.code] ++ leBytes 4 tag.toNat
      ++ [kind, 0, 0, 0] ++ body.bytes
  | .arrival i tag g m n status =>
    [0x02, (BitVec.ofBool phase).setWidth 8, streamByte i, status.code] ++ leBytes 4 tag.toNat
      ++ [genByte g, m] ++ leBytes 2 n
  | .bufferReturn i tag g reason =>
    [0x03, (BitVec.ofBool phase).setWidth 8, streamByte i, reason.code] ++ leBytes 4 tag.toNat
      ++ [genByte g]
  | .streamEvent i e =>
    [0x04, (BitVec.ofBool phase).setWidth 8, streamByte i, e.kind.causeCode, 0, 0, 0, 0]
      ++ [e.kind.code, genByte e.gen, e.count]
  | .linkEvent state lanes epoch count =>
    [0x05, (BitVec.ofBool phase).setWidth 8, 0, 0, 0, 0, 0, 0]
      ++ [state.code, 0#4 ++ lanes, epoch, count]

/-- The 32 bytes of a posted record: what its layout does not name is zero (R194). -/
def PostedRecord.bytes (p : PostedRecord) : List Byte :=
  let named := p.content.bytes p.phase
  named ++ List.replicate (Config.completionBytes - named.length) 0

end Sys2Proof.Machine
end

