-- ==== Sys2Proof/Machine/HostPort.lean ====
section
/-! DEFINITION. The register window and the resets: PORT_RESET, SOFT_RESET, ENABLE_SET, ENABLE_CLEAR,
INT_ENABLE_WRITE, RQ_RING_WRITE, CQ_RING_WRITE, RQ_TAIL_WRITE, CQ_HEAD_WRITE and REGISTER_WRITE (Chapter 9,
with R135, R139, R155 and R159). -/

namespace Sys2Proof.Machine

/-- What a command does: it answers the next state. No command of this part stops the machine. -/
abbrev Result := Host.Outcome State Fault Refusal

/-! ### Resets (R179) -/

/-- Every block takes its reset values, with the given ring registers; outstanding reads are forgotten and
their transaction identifiers kept (R179, R182). -/
def State.resetWith (rq cq : Ring) (s : State) : State :=
  { State.reset with
    hau.rqRing := rq
    hau.cqRing := cq
    hau.forgotten := s.hau.forgotten ++ s.hau.tracker.map ReadEntry.id
    emitted := s.emitted
    pending := s.pending }

/-- A port reset: both ring registers take base 0 and order 4 (R179). -/
def State.portReset (s : State) : State := s.resetWith Ring.reset Ring.reset

/-- A soft reset: the ring geometry is kept (R179). -/
def State.softReset (s : State) : State := s.resetWith s.hau.rqRing s.hau.cqRing

/-! ### CONTROL (R175, R178) -/

/-- ENABLE cleared while the Request Processor is HOLDING: it returns its reservation and is IDLE (R139). -/
def State.returnHeldReservation (s : State) : State :=
  if s.rp.taking = .holding then { s.releaseReservation with rp.taking := .idle } else s

/-- The written ENABLE acts on the engine state; in HALTED it is ignored (R175, R178). -/
def State.writeEnable (enable : Bool) (s : State) : State :=
  match s.hau.engine, enable with
  | .stopped, true => { s with hau.engine := .running, hau.enable := true }
  | .running, false => { s.returnHeldReservation with hau.engine := .stopped, hau.enable := false }
  | _, _ => s

/-- A write to CONTROL with RESET 0: INT_ENABLE takes the written value, ENABLE acts on the engine state, and
the interrupt condition is judged again (R175, R187). -/
def State.writeControl (enable intEnable : Bool) (s : State) : State :=
  State.judgeInterrupt s.interruptCondition
    (State.writeEnable enable { s with hau.intEnable := intEnable })

/-! ### The ring registers (R155, R176) -/

/-- The order field of a written ring value (R196). -/
def ringOrder (v : BitVec 64) : BitVec 4 := v.setWidth 4

/-- The base field of a written ring value, bits 63 to 12 (R196). -/
def ringBase (v : BitVec 64) : BitVec 52 := (v >>> 12).setWidth 52

/-- A written order that is never in force is not taken (R134, R154). -/
def orderValid (o : BitVec 4) : Bool :=
  decide (Config.minRingOrder ≤ o.toNat ∧ o.toNat ≤ Config.maxRingOrder)

/-- A write to RQ_RING: accepted in STOPPED, it stores the base and a valid order, sets both indices to 0, and
marks an outstanding record read as belonging to the old ring (R139, R176). -/
def State.writeRqRing (v : BitVec 64) (s : State) : State :=
  if s.hau.engine = .stopped then
    { s with
      hau.rqRing := ⟨ringBase v, if orderValid (ringOrder v) then ringOrder v else s.hau.rqRing.order⟩
      rp.rqHead := 0
      rp.rqTail := 0
      rp.taking := match s.rp.taking with
        | .reading _ => .reading true
        | t => t }
  else s

/-- A write to CQ_RING: accepted in STOPPED, it stores the base and a valid order whose ring holds the reserved
slots; tail, CQ_HEAD and the unconsumed count become 0 and the phase 1 (R155, R176). -/
def State.writeCqRing (v : BitVec 64) (s : State) : State :=
  if s.hau.engine = .stopped then
    let order := ringOrder v
    let taken := orderValid order && decide (s.cp.reserved ≤ 2 ^ order.toNat)
    State.judgeInterrupt s.interruptCondition
      { s with
        hau.cqRing := ⟨ringBase v, if taken then order else s.hau.cqRing.order⟩
        cp.tail := 0
        cp.phase := true
        cp.unconsumed := 0 }
  else s

/-! ### The index registers (R135, R159) -/

/-- A write to RQ_TAIL: the value modulo the ring size is stored, in every engine state (R135, R177). -/
def State.writeRqTail (v : BitVec 32) (s : State) : State :=
  { s with rp.rqTail := v.toNat % s.rqSize }

/-- The advance a write to CQ_HEAD asks for: (v − h) mod ring size (R159). -/
def State.cqAdvance (v : BitVec 32) (s : State) : Nat :=
  (v.toNat % s.cqSize + (s.cqSize - s.cqHead)) % s.cqSize

/-- A write to CQ_HEAD: accepted when the advance is at most the unconsumed count, which it lowers; an accepted
write that leaves the interrupt condition true owes an interrupt, one that leaves it false cancels it
(R159, R187). -/
def State.writeCqHead (v : BitVec 32) (s : State) : State :=
  if s.cqAdvance v ≤ s.cp.unconsumed then
    State.judgeInterrupt false { s with cp.unconsumed := s.cp.unconsumed - s.cqAdvance v }
  else s

/-! ### Any write access (R173, R196) -/

/-- The whole value of a ring register when its low half is written (R173). -/
def Ring.withLow (r : Ring) (v : BitVec 64) : BitVec 64 := (r.word >>> 32) <<< 32 ||| (v.setWidth 32).setWidth 64

/-- The whole value of a ring register when its high half is written (R173). -/
def Ring.withHigh (r : Ring) (v : BitVec 64) : BitVec 64 := v <<< 32 ||| (r.word.setWidth 32).setWidth 64

/-- A write to CONTROL: RESET 1 is a soft reset, RESET 0 applies both enables (R175, R196). -/
def State.writeControlWord (v : BitVec 64) (s : State) : State :=
  if v.getLsbD 1 then s.softReset else s.writeControl (v.getLsbD 0) (v.getLsbD 2)

/-- A write access of the register window. Every access that is not a register access, and every access to a
read-only register, is ignored (R173, R177); a half of a ring register is a write of the whole (R173). -/
def State.writeRegister (offset size : Nat) (v : BitVec 64) (s : State) : State :=
  if size = 4 then
    if offset = 0x04 then s.writeControlWord v
    else if offset = 0x10 then s.writeRqRing (s.hau.rqRing.withLow v)
    else if offset = 0x14 then s.writeRqRing (s.hau.rqRing.withHigh v)
    else if offset = 0x18 then s.writeCqRing (s.hau.cqRing.withLow v)
    else if offset = 0x1C then s.writeCqRing (s.hau.cqRing.withHigh v)
    else if offset = 0x20 then s.writeRqTail (v.setWidth 32)
    else if offset = 0x28 then s.writeCqHead (v.setWidth 32)
    else s
  else if size = 8 then
    if offset = 0x10 then s.writeRqRing v
    else if offset = 0x18 then s.writeCqRing v
    else s
  else s

/-! ### The commands -/

/-- PORT_RESET (R179). -/
def execPortReset (s : State) : Result := .next s.portReset
/-- SOFT_RESET (R175, R179). -/
def execSoftReset (s : State) : Result := .next s.softReset
/-- ENABLE_SET (R178). -/
def execEnableSet (intEnable : Bool) (s : State) : Result := .next (s.writeControl true intEnable)
/-- ENABLE_CLEAR (R139, R178). -/
def execEnableClear (intEnable : Bool) (s : State) : Result := .next (s.writeControl false intEnable)
/-- INT_ENABLE_WRITE (R175). -/
def execIntEnableWrite (enable intEnable : Bool) (s : State) : Result :=
  .next (s.writeControl enable intEnable)
/-- RQ_RING_WRITE (R139, R176). -/
def execRqRingWrite (value : BitVec 64) (s : State) : Result := .next (s.writeRqRing value)
/-- CQ_RING_WRITE (R155, R176). -/
def execCqRingWrite (value : BitVec 64) (s : State) : Result := .next (s.writeCqRing value)
/-- RQ_TAIL_WRITE (R135). -/
def execRqTailWrite (value : BitVec 32) (s : State) : Result := .next (s.writeRqTail value)
/-- CQ_HEAD_WRITE (R159). -/
def execCqHeadWrite (value : BitVec 32) (s : State) : Result := .next (s.writeCqHead value)
/-- REGISTER_WRITE (R173). -/
def execRegisterWrite (offset size : Nat) (value : BitVec 64) (s : State) : Result :=
  .next (s.writeRegister offset size value)

end Sys2Proof.Machine
end

