-- ==== Sys2Proof/Machine/ReceiveOps.lean ====
section
/-! DEFINITION. Shared operations of the Receive Engine: the release records of delivered and returned
buffers, delivery in MSN order, the flush, and the release of a buffer list. -/

namespace Sys2Proof.Machine

/-- Append release entries to a stream's release list (R61, R62). -/
def State.appendRelease (i : StreamId) (es : List ReleaseEntry) (s : State) : State :=
  s.setRxs i { s.rxs i with releaseList := (s.rxs i).releaseList ++ es }

/-- The length of a COMPLETE context's message: 256·`last_index` + `last_length` (R85). -/
def ReContext.messageLength (c : ReContext) : Nat :=
  match c.lastSlice with
  | some (index, length) => Config.sliceBytes * index + length
  | none => 0

/-- The ARRIVAL of a ready context under a generation (R85, R89). -/
def ReContext.arrival (gen : Gen) (c : ReContext) : ReleaseEntry :=
  match c.state with
  | .oversize => ⟨c.buffer, .arrival gen c.msn 0 .oversize⟩
  | _ => ⟨c.buffer, .arrival gen c.msn c.messageLength .ok⟩

/-- The BUFFER_RETURN of an abandoned context (R90). -/
def ReContext.giveBack (gen : Gen) (reason : ReturnReason) (c : ReContext) : ReleaseEntry :=
  ⟨c.buffer, .bufferReturn gen reason⟩

/-- A context is freed (R71): the occupancy leaves the list of contexts in use. -/
def State.freeContext (occupancy : Nat) (s : State) : State :=
  { s with re.contexts := s.re.contexts.filter fun c => decide (c.occupancy ≠ occupancy) }

/-- The context of this occupancy takes new contents. -/
def State.setContext (c : ReContext) (s : State) : State :=
  { s with re.contexts := s.re.contexts.map fun d => if d.occupancy = c.occupancy then c else d }

/-- The outcome a delivered context leaves in the history (R85). -/
def ReContext.outcome (c : ReContext) : DeliveryOutcome :=
  match c.state with
  | .oversize => .tooLong
  | _ => .ack

/-- The outcome history with one more pair, the oldest removed if it held 8 (R86). -/
def pushHistory (h : List (Msn × DeliveryOutcome)) (p : Msn × DeliveryOutcome) :
    List (Msn × DeliveryOutcome) :=
  (if h.length < Config.historyLimit then h else h.tail) ++ [p]

/-- Deliver one context: its ARRIVAL joins the release list, its outcome the history, it is freed, and
`rx_expected` advances (R85, steps 1 to 4). -/
def State.deliver (i : StreamId) (c : ReContext) (s : State) : State :=
  let s1 := s.appendRelease i [c.arrival (s.stream i).gen]
  let s2 := s1.setStream i
    { s1.stream i with history := pushHistory (s1.stream i).history (c.msn, c.outcome) }
  let s3 := s2.freeContext c.occupancy
  s3.setRxs i { s3.rxs i with rxExpected := (s3.rxs i).rxExpected + 1 }

/-- The ready context at `rx_expected`, if the stream holds one (R85). -/
def State.deliverable (s : State) (i : StreamId) : Option ReContext :=
  s.re.contexts.find? fun c => decide (c.stream = i ∧ c.msn = (s.rxs i).rxExpected) && c.ready

/-- The delivery check with a bound on its rounds (R85). -/
def State.deliverUpTo (i : StreamId) : Nat → State → State
  | 0, s => s
  | n + 1, s =>
    match s.deliverable i with
    | none => s
    | some c => State.deliverUpTo i n (s.deliver i c)

/-- The delivery check on a stream: ready contexts at `rx_expected` are delivered in turn (R85). Each round
frees a context, so the number of contexts bounds the rounds. -/
def State.deliveryCheck (i : StreamId) (s : State) : State := State.deliverUpTo i s.re.contexts.length s

/-- Flush a stream with a reason: ARRIVALs of its ready contexts in MSN order, then BUFFER_RETURNs of the
others in MSN order; every context of the stream is freed (R88 to R90). -/
def State.flush (i : StreamId) (reason : ReturnReason) (s : State) : State :=
  let gen := (s.stream i).gen
  let cs := s.contextsInOrder i
  let entries := (cs.filter ReContext.ready).map (ReContext.arrival gen)
    ++ (cs.filter fun c => !c.ready).map (ReContext.giveBack gen reason)
  State.appendRelease i entries
    { s with re.contexts := s.re.contexts.filter fun c => decide (c.stream ≠ i) }

/-- Release a stream's buffer list: its buffers join the release list as BUFFER_RETURNs of reason
STREAM_CLOSED (R63). -/
def State.releaseBuffers (i : StreamId) (s : State) : State :=
  let gen := (s.stream i).gen
  let r := s.rxs i
  s.setRxs i { r with
    bufferList := []
    releaseList := r.releaseList ++ r.bufferList.map fun b => ⟨b, .bufferReturn gen .streamClosed⟩ }

end Sys2Proof.Machine
end

