-- ==== Sys2Proof/Machine/TransmitOps.lean ====
section
/-! DEFINITION. Shared operations of the Transmit Engine and the Fence Table: retirement with its reports to
the fences, the failure of a whole list, the change of link state, and the choices of the slicer. -/

namespace Sys2Proof.Machine

/-! ### Fences (R100, R101) -/

/-- A fence record after one retirement of stream `i`, `failed` telling whether its status was not SUCCESS
(R100). -/
def FenceRecord.count (i : StreamId) (failed : Bool) (r : FenceRecord) : FenceRecord :=
  if 0 < r.remaining[i] then
    { r with
      remaining := r.remaining.set i (r.remaining[i] - 1)
      failures := if failed then r.failures + 1 else r.failures }
  else r

/-- No count of the fence is above 0. -/
def FenceRecord.settled (r : FenceRecord) : Bool := r.remaining.toList.all fun n => decide (n = 0)

/-- The retirement brings the fence's last count above 0 down to 0 (R101). -/
def FenceRecord.completesAt (i : StreamId) (failed : Bool) (r : FenceRecord) : Bool :=
  decide (0 < r.remaining[i]) && (r.count i failed).settled

/-- The stream field of a fence's REQUEST_DONE: its stream for scope ONE, 0 for scope ALL (R101). -/
def FenceScope.streamField : FenceScope → Byte
  | .one i => streamByte i
  | .all => 0

/-- Post a fence's REQUEST_DONE (R98, R99, R101). -/
def State.postFence (tag : Tag) (scope : FenceScope) (status : Status) (failures awaited : Nat)
    (s : State) : State :=
  s.postReserved (.requestDone RequestKind.fence.code scope.streamField tag status
    (.fenceDone scope failures awaited))

/-- Tell the Fence Table of a retirement: every pending record with a count for the stream counts it (R100);
those whose last count it was complete, oldest first, and leave the pending list (R101). -/
def State.reportRetirement (i : StreamId) (failed : Bool) (s : State) : State :=
  let done := (s.ft.filter (FenceRecord.completesAt i failed)).map (FenceRecord.count i failed)
  let left := (s.ft.filter fun r => !r.completesAt i failed).map (FenceRecord.count i failed)
  done.foldl (fun s r => s.postFence r.tag r.scope .success r.failures r.awaited) { s with ft := left }

/-! ### Retirement (R46, R47) -/

/-- Post the REQUEST_DONE of a finished entry that has left its list, and tell the Fence Table (R47). -/
def State.retireEntry (i : StreamId) (s : State) (e : SendEntry) : State :=
  (s.postDone .send i e.tag e.status (.sendDone e.msn e.retries e.defers)).reportRetirement i
    (decide (e.status ≠ .success))

/-- Retire entries that have left the list of a stream, in order (R47, R49). -/
def State.retireAll (i : StreamId) (es : List SendEntry) (s : State) : State :=
  es.foldl (State.retireEntry i) s

/-- The finished entries at the head of a list, in order (R47). -/
def TxStream.finishedHead (t : TxStream) : List SendEntry := t.list.takeWhile SendEntry.finished

/-- Retirement: every finished entry at the head leaves the list and is retired, in MSN order (R46, R47). -/
def State.retireHeads (i : StreamId) (s : State) : State :=
  (s.setList i ((s.txs i).list.dropWhile SendEntry.finished)).retireAll i (s.txs i).finishedHead

/-! ### Failing a whole list (R48, R49) -/

/-- The cause of a list failure, with the entry that the report names (R48). -/
inductive ListFailure where
  | noResponse (named : Msn)
  | remoteClosed (named : Option Msn)
  | peerReset
  | peerResync
  | closedLocally
deriving DecidableEq, Repr

/-- The failure status of an entry not yet finished (R48). -/
def ListFailure.status (cause : ListFailure) (e : SendEntry) : SendFailure :=
  match cause with
  | .noResponse named => if e.msn = named then .noResponse else .streamFaulted
  | .remoteClosed named => if named = some e.msn then .remoteClosed else .streamFaulted
  | .peerReset => .peerReset
  | .peerResync => .peerResync
  | .closedLocally => .closedLocally

/-- An entry after the list failure: a finished one keeps its outcome, any other is FAILED with the status of
R48; its timers are cancelled (R49). -/
def SendEntry.fail (cause : ListFailure) (e : SendEntry) : SendEntry :=
  if e.finished then e.cancelTimers else { e.cancelTimers with state := .failed (cause.status e) }

/-- Fail and retire the whole transmit list of a stream, freeing its slicer slots (R49). -/
def State.failList (i : StreamId) (cause : ListFailure) (s : State) : State :=
  ((s.freeSlotsOfStream i).setList i []).retireAll i ((s.txs i).list.map (SendEntry.fail cause))

/-! ### Link changes (R50, R51) -/

/-- An entry when the link goes DOWN: its timers are suspended, and if a slicer slot held it, it is QUEUED
with the attempt after the slot's (R50). -/
def SendEntry.linkDown (held : Option SlotWork) (e : SendEntry) : SendEntry :=
  match held with
  | some w => { e.suspendTimers with state := .queued, attempt := w.attempt + 1 }
  | none => e.suspendTimers

/-- The Transmit Engine is told that the link is DOWN (R50). -/
def State.transmitLinkDown (s : State) : State :=
  { s with
    te.tx := Vector.ofFn fun i =>
      { s.txs i with list := (s.txs i).list.map fun e => e.linkDown (s.slotWorkOf i e.msn) }
    te.slots := Vector.replicate 4 none }

/-- The Transmit Engine is told that the link is UP: suspended timers resume, unless the engine is HALTED
(R51). -/
def State.transmitLinkUp (s : State) : State :=
  if s.isHalted then s
  else { s with te.tx := s.te.tx.map fun t => { t with list := t.list.map SendEntry.resumeTimers } }

/-! ### The slicer (R32 to R37) -/

/-- An entry can be taken by a slicer slot as far as its list goes: QUEUED within the send window (R32). -/
def TxStream.oldestQueued (t : TxStream) : Option SendEntry :=
  (t.list.take Config.windowSize).find? fun e => decide (e.state = .queued)

/-- The oldest eligible entry of a stream: its stream is OPEN or DRAINING (R32). -/
def State.eligibleEntry (s : State) (i : StreamId) : Option SendEntry :=
  match (s.stream i).state with
  | .opened => (s.txs i).oldestQueued
  | .draining => (s.txs i).oldestQueued
  | _ => none

/-- The stream that a free slot serves: the first after the slicer pointer with an eligible entry (R32). -/
def State.fillStream (s : State) : Option StreamId :=
  (turnAfter s.te.slicerPointer).find? fun i => (s.eligibleEntry i).isSome

/-- The free slot that takes the next entry: the lowest-numbered one (DESIGN CHOICE, assumption 18: R32 names
none, and its example fills slots 0, 1, 2 in turn). -/
def State.freeSlot (s : State) : Option SlotId :=
  (List.finRange 4).find? fun k => (s.slot k).isNone

/-- Put a place into the first free one of a slot's two read places (R31). -/
def SlotWork.fillPlace (w : SlotWork) (p : Place) : SlotWork :=
  if w.placeA = .free then { w with placeA := p } else { w with placeB := p }

/-- Every place of the slot that holds `p` now holds `q`. -/
def SlotWork.replacePlace (w : SlotWork) (p q : Place) : SlotWork :=
  { w with placeA := if w.placeA = p then q else w.placeA, placeB := if w.placeB = p then q else w.placeB }

/-- One of the slot's two read places is free (R31). -/
def SlotWork.hasFreePlace (w : SlotWork) : Bool := decide (w.placeA = .free ∨ w.placeB = .free)

/-- The data of the slice the slot hands next, if a place holds it (R36). -/
def SlotWork.readyData (w : SlotWork) : Option (List Byte) :=
  match w.placeA, w.placeB with
  | .ready i d, .ready j d' => if i = w.nextHand then some d else if j = w.nextHand then some d' else none
  | .ready i d, _ => if i = w.nextHand then some d else none
  | _, .ready j d' => if j = w.nextHand then some d' else none
  | _, _ => none

/-- The entry a slicer slot holds. -/
def State.slotEntry (s : State) (w : SlotWork) : Option SendEntry := (s.txs w.stream).locate w.msn

/-- The slot wants to read its next slice: a place is free and slices are left to read (R34). -/
def State.wantsRead (s : State) (k : SlotId) : Bool :=
  match s.slot k with
  | none => false
  | some w =>
    match s.slotEntry w with
    | none => false
    | some e => w.hasFreePlace && decide (w.nextRead < e.slices)

/-- The slot has a ready slice (R36). -/
def State.hasReadySlice (s : State) (k : SlotId) : Bool :=
  match s.slot k with
  | none => false
  | some w => w.readyData.isSome && (s.slotEntry w).isSome

end Sys2Proof.Machine
end

