-- ==== Sys2Proof/Machine/StreamOps.lean ====
section
/-! DEFINITION. Shared operations of the Stream Table: entering RELEASING and reaching CLOSED, the end of a
drain, faults, the resync and the partner restart. -/

namespace Sys2Proof.Machine

/-- Set a stream's state. -/
def State.setState (i : StreamId) (x : StreamState) (s : State) : State :=
  s.setStream i { s.stream i with state := x }

/-- The status of a pending CLOSE by the path into RELEASING (R18). -/
def ReleaseCause.status : ReleaseCause → Status
  | .closed => .success
  | .faulted => .sendFailed .streamFaulted

/-- A RELEASING stream whose release list is empty becomes CLOSED, and its pending CLOSEs finish in the order
they were taken (R18). -/
def State.becomeClosed (i : StreamId) (s : State) : State :=
  let r := s.stream i
  r.closePending.foldl
    (fun s p => s.postDone .closeStream i p.1 r.releaseCause.status (.closeDone p.2))
    (s.setStream i { r with state := .closed, closePending := [] })

/-- If the stream is RELEASING and its release list is empty, it closes now (R18). -/
def State.closeIfReleased (i : StreamId) (s : State) : State :=
  if (s.stream i).state = .releasing ∧ (s.rxs i).releaseList = [] then s.becomeClosed i else s

/-- Enter RELEASING with the cause of the entry, and close at once if the release list is empty (R18). -/
def State.enterReleasing (i : StreamId) (cause : ReleaseCause) (s : State) : State :=
  (s.setStream i { s.stream i with state := .releasing, releaseCause := cause }).closeIfReleased i

/-- The drain ends: flush and release with reason STREAM_CLOSED, then RELEASING (R14). -/
def State.endDrain (i : StreamId) (s : State) : State :=
  ((s.flush i .streamClosed).releaseBuffers i).enterReleasing i .closed

/-- A DRAINING stream whose transmit list is empty ends its drain (R14). -/
def State.endDrainIfEmpty (i : StreamId) (s : State) : State :=
  if (s.stream i).state = .draining ∧ (s.txs i).list = [] then s.endDrain i else s

/-- Retirement at the head of a list after an event that finished one of its entries; if it empties the list
of a DRAINING stream, the drain ends in the same event (R47, R14). -/
def State.retire (i : StreamId) (s : State) : State :=
  if (s.txs i).finishedHead = [] then s else (s.retireHeads i).endDrainIfEmpty i

/-! ### Faults (R19 to R22) -/

/-- A fault report: its cause, with the entry that NO_RESPONSE or REMOTE_CLOSED names (R19, R39, R45). -/
inductive FaultReport where
  | noResponse (named : Msn)
  | remoteClosed (named : Option Msn)
  | peerReset
deriving DecidableEq, Repr

/-- The cause of the list failure that a fault orders (R19, R48). -/
def FaultReport.failure : FaultReport → ListFailure
  | .noResponse m => .noResponse m
  | .remoteClosed m => .remoteClosed m
  | .peerReset => .peerReset

/-- The cause that the FAULTED event carries (R23). -/
def FaultReport.cause : FaultReport → FaultCause
  | .noResponse _ => .noResponse
  | .remoteClosed _ => .remoteClosed
  | .peerReset => .peerReset

/-- The reason of the flush that a fault orders (R19). -/
def FaultReport.reason : FaultReport → ReturnReason
  | .noResponse _ => .streamFaulted
  | .remoteClosed _ => .streamFaulted
  | .peerReset => .peerReset

/-- The Stream Table takes a fault report: an OPEN stream becomes FAULTED and records the event (R19), a
DRAINING one finishes its close (R20), any other ignores it (R21). -/
def State.reportFault (i : StreamId) (f : FaultReport) (s : State) : State :=
  match (s.stream i).state with
  | .opened =>
    let s1 := ((s.failList i f.failure).flush i f.reason).setState i .faulted
    s1.recordEvent i (.faulted f.cause) (s1.stream i).gen
  | .draining =>
    (((s.failList i f.failure).flush i f.reason).releaseBuffers i).enterReleasing i .faulted
  | _ => s

/-- What a partner restart does to one stream (R22). -/
def State.restartStream (s : State) (i : StreamId) : State :=
  match (s.stream i).state with
  | .opened => s.reportFault i .peerReset
  | .draining => s.reportFault i .peerReset
  | .faulted => s.recordEvent i (.faulted .peerReset) (s.stream i).gen
  | .opening => s.sendSync i
  | .closed => s
  | .releasing => s

/-- The Stream Table is told of a partner restart and acts on all 64 streams in increasing number (R22). -/
def State.partnerRestart (s : State) : State := (List.finRange 64).foldl State.restartStream s

/-! ### Sequence resets -/

/-- Set `tx_next` and `rx_expected` of a stream to 0 (R4, R10, R30, R69). -/
def State.resetSequences (i : StreamId) (s : State) : State :=
  let s1 := s.setTxs i { s.txs i with txNext := 0 }
  s1.setRxs i { s1.rxs i with rxExpected := 0 }

/-- The OPEN in `open_pending` finishes with a status and the current `sync_sent` (R7, R8, R16). -/
def State.finishOpen (i : StreamId) (status : Status) (s : State) : State :=
  let r := s.stream i
  match r.openPending with
  | none => s
  | some tag =>
    (s.setStream i { r with openPending := none }).postDone .openStream i tag status
      (.openDone r.syncSent)

/-- A resync to the partner's generation (R10, steps 1 to 6). -/
def State.resync (i : StreamId) (g : Gen) (s : State) : State :=
  let s2 := ((s.failList i .peerResync).flush i .streamResync).resetSequences i
  let s3 := s2.setStream i
    { s2.stream i with deferralNote := none, history := [], gen := g, lastGen := g }
  ((s3.produceNotice (.syncAck i g)).recordEvent i .resynced g).endDrainIfEmpty i

end Sys2Proof.Machine
end

