-- ==== Sys2Proof/Machine/Completions.lean ====
section
/-! DEFINITION. The Completion Poster's and the write queue's commands: LINK_EVENT_GRANT,
STREAM_EVENT_GRANT, RELEASE_LIST_GRANT, BACKLOG_MOVE, RECORD_WRITE_DEPARTS and INTERRUPT_MESSAGE (Chapter 8;
Chapter 9, sections 9.4 and 9.6). A grant goes to the highest-ranked claim that stands (R161): a lower claim's
grant does not occur while a higher one waits. -/

namespace Sys2Proof.Machine

/-- The pending link event is granted: the LINK_EVENT is posted as the link stands, and the count is 0
(R124). -/
def State.grantLinkEvent (s : State) : State :=
  { s.postRecord (.linkEvent s.lm.linkState s.lanesUp s.lm.partnerEpoch s.lm.linkEvent) with
    lm.linkEvent := 0 }

/-- The claim of rank 1 can be granted (R161). -/
def State.linkGrantEnabled (s : State) : Bool := s.canGrant && decide (s.lm.linkEvent ≠ 0)

/-- LINK_EVENT_GRANT (R124). -/
def execLinkEventGrant (s : State) : Result := .next (if s.linkGrantEnabled then s.grantLinkEvent else s)

/-- A stream's recorded event is granted: the STREAM_EVENT is posted and the field emptied (R24). -/
def State.grantStreamEvent (i : StreamId) (e : StreamEvent) (s : State) : State :=
  let s1 := s.postRecord (.streamEvent i e)
  s1.setStream i { s1.stream i with event := none }

/-- A claim of rank 2 or below can be granted: no link event is pending (R161). -/
def State.belowLinkEnabled (s : State) : Bool := s.canGrant && decide (s.lm.linkEvent = 0)

/-- One grant of rank 2, to the lowest stream with a recorded event (R24, R161). -/
def State.streamEventGrant (s : State) : State :=
  if s.belowLinkEnabled then
    match s.eventClaim with
    | none => s
    | some i =>
      match (s.stream i).event with
      | none => s
      | some e => s.grantStreamEvent i e
  else s

/-- STREAM_EVENT_GRANT (R24). -/
def execStreamEventGrant (s : State) : Result := .next s.streamEventGrant

/-- The completion that a release record becomes (R61, R168). -/
def ReleaseEntry.completion (i : StreamId) (e : ReleaseEntry) : Completion :=
  match e.record with
  | .arrival g m n status => .arrival i e.buffer.tag g m n status
  | .bufferReturn g reason => .bufferReturn i e.buffer.tag g reason

/-- A release list is granted: its head is posted, the buffer entry is FREE, `release_pointer` names the
stream, and a RELEASING stream whose list is now empty closes (R18, R64, R163). -/
def State.grantRelease (i : StreamId) (e : ReleaseEntry) (rest : List ReleaseEntry) (s : State) : State :=
  let s1 := s.postRecord (e.completion i)
  let s2 := s1.setRxs i { s1.rxs i with releaseList := rest }
  State.closeIfReleased i { s2 with cp.releasePointer := i }

/-- One grant of rank 3, to the next release list in turn (R64, R163). -/
def State.releaseListGrant (s : State) : State :=
  if s.belowLinkEnabled && s.eventClaim.isNone then
    match s.releaseClaim with
    | none => s
    | some i =>
      match (s.rxs i).releaseList with
      | [] => s
      | e :: rest => s.grantRelease i e rest
  else s

/-- RELEASE_LIST_GRANT (R64). -/
def execReleaseListGrant (s : State) : Result := .next s.releaseListGrant

/-- The oldest record of the backlog enters the write queue, if it has room (R165). In HALTED the backlog is
empty and nothing moves (R171). -/
def State.backlogMove (s : State) : State :=
  match s.cp.backlog with
  | [] => s
  | p :: rest =>
    if s.writeRoom && !s.isHalted then
      { s with cp.backlog := rest, hau.writeQueue := s.hau.writeQueue ++ [.record p] }
    else s

/-- BACKLOG_MOVE (R165). -/
def execBacklogMove (s : State) : Result := .next s.backlogMove

/-- The record write at the head of the write queue leaves for the port, and an owed interrupt awaits one
departure fewer (R184, R188). -/
def State.recordWriteDeparts (s : State) : State :=
  match s.hau.writeQueue with
  | .record p :: rest =>
    State.emit
      { s with
        hau.writeQueue := rest
        hau.interruptOwed := s.hau.interruptOwed.map fun n => n - 1 }
      (.hostWrite p.address p.bytes)
  | _ => s

/-- RECORD_WRITE_DEPARTS (R184). -/
def execRecordWriteDeparts (s : State) : Result := .next s.recordWriteDeparts

/-- An owed interrupt that awaits no departure is sent as one message, or, while the endpoint's
message-signalled interrupt is disabled, is no longer owed without one (R188). -/
def State.interruptMessage (msiEnabled : Bool) (s : State) : State :=
  if s.hau.interruptOwed = some 0 then
    let s1 : State := { s with hau.interruptOwed := none }
    if msiEnabled then s1.emit .interruptMessage else s1
  else s

/-- INTERRUPT_MESSAGE (R188). -/
def execInterruptMessage (msiEnabled : Bool) (s : State) : Result := .next (s.interruptMessage msiEnabled)

end Sys2Proof.Machine
end

