-- ==== Sys2Proof/Machine/LaneOps.lean ====
section
/-! DEFINITION. Shared operations of the Link Manager: entering SEEKING and OFF, judging the link state, the
judgement of a received unit by the state of its lane, and the partner restart. -/

namespace Sys2Proof.Machine

/-- A lane leaves its state: leaving UP discards its queue and counts a retrain (R118). -/
def Lane.leave (l : Lane) : Lane :=
  if l.state = .up then { l with txQueue := [], retrains := satInc l.retrains } else l

/-- A lane enters SEEKING: runs 0, silence timer stopped, queue empty (R114, R118). -/
def Lane.toSeeking (l : Lane) : Lane :=
  { l.leave with state := .seeking, validRun := 0, badRun := 0, silenceTimer := .stopped, txQueue := [] }

/-- A lane enters OFF: runs 0, silence timer stopped, counters kept (R128). -/
def Lane.toOff (l : Lane) : Lane :=
  { l.leave with state := .off, validRun := 0, badRun := 0, silenceTimer := .stopped, txQueue := [] }

/-- Record one link change, saturating at 255 (R124). -/
def State.recordLinkChange (s : State) : State := { s with lm.linkEvent := satInc s.lm.linkEvent }

/-- Judge `link_state` after an event that changed a lane: it is UP exactly when a lane is. A change to DOWN
empties the notice queue, tells the Transmit Engine and records a link change; a change to UP tells the
Transmit Engine and records one (R123). -/
def State.judgeLink (s : State) : State :=
  match s.anyLaneUp, s.lm.linkState with
  | true, .down => (State.transmitLinkUp { s with lm.linkState := .up }).recordLinkChange
  | false, .up =>
    (State.transmitLinkDown { s with lm.linkState := .down, lm.noticeQueue := [] }).recordLinkChange
  | _, _ => s

/-- A lane returns to SEEKING and the link state is judged (R115 to R118, R123). -/
def State.seekLane (l : LaneId) (s : State) : State := (s.setLane l (s.lane l).toSeeking).judgeLink

/-- What every good unit does to its lane: `bad_run` is 0 and, in ALIGNED and UP, the silence timer restarts
(R111). -/
def Lane.hearGood (l : Lane) : Lane :=
  match l.state with
  | .aligned => { l with badRun := 0, silenceTimer := .running Config.silenceLimit }
  | .up => { l with badRun := 0, silenceTimer := .running Config.silenceLimit }
  | _ => { l with badRun := 0 }

/-- A good unit other than ALIGN arrives on a lane (R111, R113 to R115): an OFF lane does not listen; a
SEEKING lane discards the unit and breaks its run; an ALIGNED lane returns to SEEKING; an UP lane passes the
unit on, which `act` then handles. While the engine is HALTED the lane passes units on that their blocks
ignore, and changes nothing (R131). -/
def State.hearUnit (l : LaneId) (act : State → State) (s : State) : State :=
  if s.isHalted then s
  else
    match (s.lane l).state with
    | .off => s
    | .seeking => s.setLane l { (s.lane l).hearGood with validRun := 0 }
    | .aligned => s.seekLane l
    | .up => act (s.setLane l (s.lane l).hearGood)

/-- A bad unit arrives on a lane: it is counted; a SEEKING lane breaks its run; an ALIGNED or UP lane restarts
its silence timer and returns to SEEKING at the fourth bad unit in a row (R111, R116). -/
def State.hearBad (l : LaneId) (s : State) : State :=
  if s.isHalted then s
  else
    let r := { s.lane l with badUnits := satInc (s.lane l).badUnits }
    match (s.lane l).state with
    | .off => s
    | .seeking => s.setLane l { r with validRun := 0 }
    | _ =>
      let heard := { r with badRun := r.badRun + 1, silenceTimer := .running Config.silenceLimit }
      if Config.badUnitLimit ≤ heard.badRun then (s.setLane l heard).seekLane l else s.setLane l heard

/-- The other lanes that are ALIGNED or UP return to SEEKING at a partner restart seen on lane `l` (R122, step
3). -/
def State.seekOthers (l : LaneId) (s : State) : State :=
  { s with lm.lanes := Vector.ofFn fun k =>
      let r := s.lane k
      if k ≠ l ∧ (r.state = .aligned ∨ r.state = .up) then r.toSeeking else r }

/-- A partner restart detected on lane `l`, in the order of R122. -/
def State.restartOn (l : LaneId) (epoch : Byte) (s : State) : State :=
  let wasDown := decide (s.lm.linkState = .down)
  let s1 : State := { s with lm.partnerEpoch := epoch }
  let s3 := (s1.setLane l { s1.lane l with state := .up }).seekOthers l
  let s5 : State := { s3 with lm.noticeQueue := [], lm.linkState := .up }
  let s6 := s5.partnerRestart
  (if wasDown then s6.transmitLinkUp else s6).recordLinkChange

/-- An ALIGNED lane judges a ready ALIGN of the opposite role: the first epoch and an equal one make the lane
UP, another one is a partner restart (R121). -/
def State.laneUp (l : LaneId) (epoch : Byte) (s : State) : State :=
  if s.lm.partnerEpoch = 0 ∨ s.lm.partnerEpoch = epoch then
    (State.setLane { s with lm.partnerEpoch := epoch } l { s.lane l with state := .up }).judgeLink
  else s.restartOn l epoch

/-- A SEEKING lane judges a good ALIGN (R114, R129). -/
def State.seekingAlign (l : LaneId) (role : Role) (s : State) : State :=
  let r := s.lane l
  if role = s.rp.config.role then
    { s.setLane l { r with validRun := 0 } with lm.roleClash := true }
  else if Config.alignRun ≤ r.validRun + 1 then
    { s.setLane l { r with
        state := .aligned, validRun := 0, silenceTimer := .running Config.silenceLimit } with
      lm.roleClash := false }
  else s.setLane l { r with validRun := r.validRun + 1 }

/-- An ALIGNED lane judges a good ALIGN (R115, R129). -/
def State.alignedAlign (l : LaneId) (role : Role) (epoch : Byte) (ready : Bool) (s : State) : State :=
  if role = s.rp.config.role then State.seekLane l { s with lm.roleClash := true }
  else if ready then s.laneUp l epoch
  else s

/-- A good ALIGN arrives on a lane (R111, R114, R115). -/
def State.hearAlign (l : LaneId) (role : Role) (epoch : Byte) (ready : Bool) (s : State) : State :=
  if s.isHalted then s
  else
    let heard := s.setLane l (s.lane l).hearGood
    match (s.lane l).state with
    | .off => s
    | .seeking => heard.seekingAlign l role
    | .aligned => heard.alignedAlign l role epoch ready
    | .up => if ready then heard else heard.seekLane l

/-! ### Configuring the lanes (R128) -/

/-- What an applied CONFIGURE does to one lane, by its membership of the old and the new mask (R128). -/
def Lane.reconfigure (oldMember newMember changed : Bool) (l : Lane) : Lane :=
  match oldMember, newMember with
  | false, false => l
  | false, true => l.toSeeking
  | true, false => l.toOff
  | true, true => if changed then l.toSeeking else l

/-- The Link Manager's part of an applied CONFIGURE: the lanes change by R128, the link state is judged once,
and a changed role clears `role_clash` (R129). The configuration record still holds the old values. -/
def State.reconfigureLanes (mask : BitVec 4) (role : Role) (epoch : Byte) (s : State) : State :=
  let old := s.rp.config
  let changed := decide (old.role ≠ role ∨ old.localEpoch ≠ epoch)
  State.judgeLink
    { s with
      lm.lanes := Vector.ofFn fun k =>
        (s.lane k).reconfigure (old.laneMask.getLsbD k.val) (mask.getLsbD k.val) changed
      lm.roleClash := if old.configured ∧ old.role ≠ role then false else s.lm.roleClash }

end Sys2Proof.Machine
end

