-- ==== Sys2Proof/Machine/Requests.lean ====
section
/-! DEFINITION. The request records: the taking rule of each owning block, the check and dispatch of a taken
record, and the commands CONFIGURE, OPEN, CLOSE, SEND, POST, FENCE, QUERY_STREAM and QUERY_LINK. A request
reaches its block only out of a record read that completes (R140, R145), so each of these commands is the
completion of the outstanding record read with that record; where no record read is outstanding there is
nothing to take, and nothing changes (assumption 3). -/

namespace Sys2Proof.Machine

/-! ### Taking rules -/

/-- Post a REQUEST_DONE whose stream field is 0 (R167). -/
def State.postDoneNoStream (kind : RequestKind) (tag : Tag) (status : Status) (body : DoneBody)
    (s : State) : State :=
  s.postReserved (.requestDone kind.code 0 tag status body)

/-- Every stream is CLOSED (R148). -/
def State.allClosed (s : State) : Bool := s.st.toList.all fun r => decide (r.state = .closed)

/-- A CONFIGURE is judged by the 64 streams: refused BUSY if one is not CLOSED, else applied to the lanes and
the configuration record (R148). -/
def State.takeConfigure (tag : Tag) (c : ConfigRecord) (s : State) : State :=
  if s.allClosed then
    State.postDoneNoStream .configure tag .success .none
      { s.reconfigureLanes c.laneMask c.role c.localEpoch with rp.config := c }
  else s.postDoneNoStream .configure tag .busy .none

/-- The Stream Table takes an OPEN (R4): in CLOSED the next generation is proposed and the stream is OPENING,
in any other state the OPEN is refused. -/
def State.takeOpen (i : StreamId) (tag : Tag) (s : State) : State :=
  match (s.stream i).state with
  | .closed =>
    let p := (s.stream i).lastGen + 1
    let s1 := s.resetSequences i
    (s1.setStream i
      { s1.stream i with
        gen := p
        lastGen := p
        syncSent := 0
        deferralNote := none
        history := []
        openPending := some tag
        state := .opening }).sendSync i
  | _ => s.postDone .openStream i tag .wrongState (.openDone 0)

/-- A taken CLOSE joins `close_pending` (R12). -/
def State.addClose (i : StreamId) (tag : Tag) (mode : CloseMode) (s : State) : State :=
  s.setStream i { s.stream i with closePending := (s.stream i).closePending ++ [(tag, mode)] }

/-- A CLOSE cancels an opening (R16). -/
def State.cancelOpening (i : StreamId) (s : State) : State :=
  let s1 := s.setStream i { s.stream i with syncTimer := .stopped }
  let s2 := s1.finishOpen i .cancelled
  ((s2.failList i .closedLocally).releaseBuffers i).enterReleasing i .closed

/-- A CLOSE(IMMEDIATE) ends an OPEN or DRAINING stream in the event of its taking (R15). -/
def State.closeNow (i : StreamId) (s : State) : State :=
  (((s.failList i .closedLocally).flush i .streamClosed).releaseBuffers i).enterReleasing i .closed

/-- The Stream Table takes a CLOSE by the stream's state and the request's mode (R12, R13, R15 to R17). -/
def State.takeClose (i : StreamId) (tag : Tag) (mode : CloseMode) (s : State) : State :=
  let refused := s.postDone .closeStream i tag .wrongState (.closeDone mode)
  let taken := s.addClose i tag mode
  match (s.stream i).state, mode with
  | .opening, _ => taken.cancelOpening i
  | .opened, .graceful => (taken.setState i .draining).endDrainIfEmpty i
  | .opened, .immediate => taken.closeNow i
  | .draining, .immediate => taken.closeNow i
  | .faulted, _ => (taken.releaseBuffers i).enterReleasing i .closed
  | _, _ => refused

/-- The Transmit Engine's check of a SEND, in the order of R29: nothing if it is accepted, else the refusal
status. -/
def State.sendRefusal (s : State) (i : StreamId) : Option Status :=
  if (s.stream i).state ≠ .opening ∧ (s.stream i).state ≠ .opened then some .wrongState
  else if Config.transmitListLimit ≤ (s.txs i).list.length then some .listFull
  else if Config.sendPoolSize ≤ s.sendEntries then some .poolEmpty
  else none

/-- The send entry that an accepted SEND makes (R29). -/
def newEntry (tag : Tag) (address : HostAddr) (length : Nat) (msn : Msn) : SendEntry where
  tag := tag
  address := address
  length := length
  msn := msn
  state := .queued
  attempt := 0
  retries := 0
  defers := 0
  ackTimer := .stopped
  holdoffTimer := .stopped

/-- The Transmit Engine takes a SEND: refused at once, or appended QUEUED with the next MSN (R29). -/
def State.takeSend (i : StreamId) (tag : Tag) (address : HostAddr) (length : Nat) (s : State) : State :=
  match s.sendRefusal i with
  | some status => s.postDone .send i tag status (.sendDone 0 0 0)
  | none =>
    let t := s.txs i
    s.setTxs i { t with
      list := t.list ++ [newEntry tag address length t.txNext]
      txNext := t.txNext + 1 }

/-- The Receive Engine's check of a POST, in the order of R59. -/
def State.postRefusal (s : State) (i : StreamId) : Option Status :=
  if (s.stream i).state ≠ .opening ∧ (s.stream i).state ≠ .opened ∧ (s.stream i).state ≠ .draining then
    some .wrongState
  else if Config.bufferListLimit ≤ (s.rxs i).bufferList.length then some .listFull
  else if Config.bufferTableSize ≤ s.buffersInUse then some .poolEmpty
  else none

/-- The Receive Engine takes a POST: an accepted buffer joins the tail of the buffer list; the REQUEST_DONE is
posted in either case with the number of buffers then listed (R59). -/
def State.takePost (i : StreamId) (tag : Tag) (address : HostAddr) (capacity : Nat) (s : State) : State :=
  match s.postRefusal i with
  | some status => s.postDone .post i tag status (.postDone (s.rxs i).bufferList.length)
  | none =>
    let r := s.rxs i
    (s.setRxs i { r with bufferList := r.bufferList ++ [⟨tag, address, capacity⟩] }).postDone .post i tag
      .success (.postDone (r.bufferList.length + 1))

/-- The fence covers the stream (R97). -/
def FenceScope.covers (scope : FenceScope) (i : StreamId) : Bool :=
  match scope with
  | .one j => decide (j = i)
  | .all => true

/-- The counts a fence starts with: the lengths of the transmit lists in its scope (R98). -/
def State.fenceCounts (s : State) (scope : FenceScope) : Vector Nat 64 :=
  Vector.ofFn fun i => if scope.covers i then (s.txs i).list.length else 0

/-- The Fence Table takes a FENCE: refused FENCE_BUSY when four are pending, complete at once when nothing is
awaited, else pending (R98, R99). -/
def State.takeFence (tag : Tag) (scope : FenceScope) (s : State) : State :=
  if Config.fenceTableSize ≤ s.ft.length then s.postFence tag scope .fenceBusy 0 0
  else
    let counts := s.fenceCounts scope
    if counts.toList.sum = 0 then s.postFence tag scope .success 0 0
    else { s with ft := s.ft ++ [⟨tag, scope, counts, 0, counts.toList.sum⟩] }

/-- The values of a QUERY_STREAM, read at one moment (R53, R66, R94, R149). -/
def State.streamReport (s : State) (i : StreamId) : StreamReport where
  state := (s.stream i).state
  gen := (s.stream i).gen
  txNext := (s.txs i).txNext
  headMsn := (s.txs i).headMsn
  listLength := (s.txs i).list.length
  rxExpected := (s.rxs i).rxExpected
  contextsInUse := (s.contextsOf i).length
  buffersListed := (s.rxs i).bufferList.length
  slicesSent := (s.txs i).slicesSent
  retransmissions := (s.txs i).retransmissions
  defersReceived := (s.txs i).defersReceived
  defersSent := (s.rxs i).defersSent
  straysDropped := (s.rxs i).straysDropped

/-- The five stream counters become 0 (R151). -/
def State.clearStreamCounters (i : StreamId) (s : State) : State :=
  let s1 := s.setTxs i { s.txs i with slicesSent := 0, retransmissions := 0, defersReceived := 0 }
  s1.setRxs i { s1.rxs i with defersSent := 0, straysDropped := 0 }

/-- A QUERY_STREAM is answered, and then clears the counters if its flag is set (R149, R151). -/
def State.takeQueryStream (i : StreamId) (tag : Tag) (clear : Bool) (s : State) : State :=
  let answered := s.postDone .queryStream i tag .success (.streamDone (s.streamReport i))
  if clear then answered.clearStreamCounters i else answered

/-- The values of a QUERY_LINK (R130, R150). -/
def State.linkReport (s : State) : LinkReport where
  lanes := s.lm.lanes.map fun l => ⟨l.state, l.badUnits, l.retrains⟩
  partnerEpoch := s.lm.partnerEpoch
  linkState := s.lm.linkState
  roleClash := s.lm.roleClash

/-- The lane counters become 0 (R130, R151). -/
def State.clearLaneCounters (s : State) : State :=
  { s with lm.lanes := s.lm.lanes.map fun l => { l with badUnits := 0, retrains := 0 } }

/-- A QUERY_LINK is answered, and then clears the lane counters if its flag is set (R150, R151). -/
def State.takeQueryLink (tag : Tag) (clear : Bool) (s : State) : State :=
  let answered := s.postDoneNoStream .queryLink tag .success (.linkDone s.linkReport)
  if clear then answered.clearLaneCounters else answered

/-! ### Check and dispatch (R140 to R145) -/

/-- Hand a checked request to the block that owns it (R145). -/
def State.dispatch (tag : Tag) (r : Request) (s : State) : State :=
  match r with
  | .configure mask role epoch ack retry hold sync =>
    s.takeConfigure tag ⟨true, mask, role, epoch, ack, retry, hold, sync⟩
  | .openStream i => s.takeOpen i tag
  | .closeStream i mode => s.takeClose i tag mode
  | .send i address length => s.takeSend i tag address length
  | .post i address capacity => s.takePost i tag address capacity
  | .fence scope => s.takeFence tag scope
  | .queryStream i clear => s.takeQueryStream i tag clear
  | .queryLink clear => s.takeQueryLink tag clear

/-- Refuse a record at its check: kind code, tag and stream as read, zero in every kind-specific field (R142,
R144). -/
def State.refuseRecord (r : RequestRecord) (status : Status) (s : State) : State :=
  s.postReserved (.requestDone r.kind r.stream r.tag status .none)

/-- Check a taken record and refuse or dispatch it (R142, R144, R145). -/
def State.processRecord (r : RequestRecord) (s : State) : State :=
  match r.check with
  | none => s.refuseRecord r .badRequest
  | some q =>
    if s.rp.config.configured || q.exempt then s.dispatch r.tag q else s.refuseRecord r .notConfigured

/-- The Request Processor moves on to the next position and is IDLE (R140). -/
def State.advanceRing (s : State) : State :=
  { s with rp.rqHead := (s.rp.rqHead + 1) % s.rqSize, rp.taking := .idle }

/-- The record read has completed and left the tracker: in READING the record is taken (R140); the record of a
ring since rewritten is discarded and its reservation returned (R139); in HALTED the data is discarded
(R141). -/
def State.recordReturned (r : RequestRecord) (s : State) : State :=
  if s.isHalted then s
  else
    match s.rp.taking with
    | .reading false => s.advanceRing.processRecord r
    | .reading true => { s.releaseReservation with rp.taking := .idle }
    | _ => s

/-- The outstanding record read completes with this record; without one nothing changes. -/
def State.completeRecordRead (r : RequestRecord) (s : State) : State :=
  match s.recordRead with
  | none => s
  | some q => (s.dropRead q.id).recordReturned r

/-- A completion part of the record read arrives; the last one completes the read (R140, R180). -/
def State.receiveRecordData (data : List Byte) (s : State) : State :=
  match s.recordRead with
  | none => s
  | some q =>
    if (q.receive data).complete then s.completeRecordRead (recordOf (q.receive data).received)
    else s.updateRead q.id (q.receive data)

/-! ### The commands -/

/-- A request record with nothing in its reserved bytes. -/
def cleanRecord (kind : RequestKind) (stream : Byte) (tag : Tag) (body : RequestBody) : RequestRecord :=
  ⟨kind.code, stream, tag, body, true⟩

/-- CONFIGURE (R148). -/
def execConfigure (tag : Tag) (laneMask role epoch retryLimit : Byte)
    (ackTimeout deferHoldoff syncInterval : BitVec 16) (s : State) : Result :=
  .next (s.completeRecordRead (cleanRecord .configure 0 tag
    (.configure laneMask role epoch retryLimit ackTimeout deferHoldoff syncInterval)))
/-- OPEN (R4). -/
def execOpenStream (stream : Byte) (tag : Tag) (s : State) : Result :=
  .next (s.completeRecordRead (cleanRecord .openStream stream tag .openStream))
/-- CLOSE (R12). -/
def execCloseStream (stream : Byte) (tag : Tag) (mode : Byte) (s : State) : Result :=
  .next (s.completeRecordRead (cleanRecord .closeStream stream tag (.closeStream mode)))
/-- SEND (R29). -/
def execSend (stream : Byte) (tag : Tag) (address : HostAddr) (length : BitVec 16) (s : State) : Result :=
  .next (s.completeRecordRead (cleanRecord .send stream tag (.send address length)))
/-- POST (R59). -/
def execPost (stream : Byte) (tag : Tag) (address : HostAddr) (capacity : BitVec 16) (s : State) :
    Result :=
  .next (s.completeRecordRead (cleanRecord .post stream tag (.post address capacity)))
/-- FENCE (R98). -/
def execFence (stream : Byte) (tag : Tag) (scope : Byte) (s : State) : Result :=
  .next (s.completeRecordRead (cleanRecord .fence stream tag (.fence scope)))
/-- QUERY_STREAM (R149). -/
def execQueryStream (stream : Byte) (tag : Tag) (clear : Byte) (s : State) : Result :=
  .next (s.completeRecordRead (cleanRecord .queryStream stream tag (.queryStream clear)))
/-- QUERY_LINK (R150). -/
def execQueryLink (tag : Tag) (clear : Byte) (s : State) : Result :=
  .next (s.completeRecordRead (cleanRecord .queryLink 0 tag (.queryLink clear)))

end Sys2Proof.Machine
end

