-- ==== Sys2Proof/Machine/HostReads.lean ====
section
/-! DEFINITION. The request ring's steps and host memory reads: RESERVATION_GRANT, RECORD_READ_ISSUE,
RECORD_READ_COMPLETE, SLICE_READ_ISSUE, SLICE_READ_RETURN, READ_ERROR, READ_TIMEOUT, FORGOTTEN_READ_RETURN
and FORGOTTEN_READ_EXPIRY, and the entry to HALTED (Chapter 7; Chapter 9, sections 9.3 and 9.5). A step whose
conditions do not hold does not occur: nothing changes (assumption 4). -/

namespace Sys2Proof.Machine

/-! ### Taking records (R136 to R138) -/

/-- The arbiter's claim of rank 4 is the highest that stands (R161). -/
def State.reservationEnabled (s : State) : Bool :=
  s.canGrant && decide (s.lm.linkEvent = 0) && s.eventClaim.isNone && s.releaseClaim.isNone && s.requestWish

/-- The Request Processor's wish is granted: one more slot is reserved, and the record read is issued if the
tracker has room, else the Request Processor is HOLDING (R137, R160). -/
def State.grantReservation (s : State) : State :=
  let s1 : State := { s with cp.reserved := s.cp.reserved + 1 }
  if s1.trackerRoom then s1.issueRecordRead else { s1 with rp.taking := .holding }

/-- RESERVATION_GRANT (R137). -/
def execReservationGrant (s : State) : Result :=
  .next (if s.reservationEnabled then s.grantReservation else s)

/-- The Request Processor in HOLDING can issue its record read (R138). -/
def State.recordReadEnabled (s : State) : Bool :=
  decide (s.rp.taking = .holding) && s.trackerRoom && !s.isHalted

/-- RECORD_READ_ISSUE (R138). -/
def execRecordReadIssue (s : State) : Result :=
  .next (if s.recordReadEnabled then s.issueRecordRead else s)

/-- RECORD_READ_COMPLETE (R140). -/
def execRecordReadComplete (data : List Byte) (s : State) : Result := .next (s.receiveRecordData data)

/-! ### Slice reads (R34, R35) -/

/-- The slot that issues the next slice read: the first in turn that wants one (R34). -/
def State.readSlot (s : State) : Option SlotId := (turnAfter s.te.readPointer).find? fun k => s.wantsRead k

/-- Slice reads can be issued: the tracker has room, the engine is not HALTED, and the Request Processor is
not waiting for the place (R34, R180). -/
def State.sliceReadEnabled (s : State) : Bool :=
  s.trackerRoom && !s.isHalted && decide (s.rp.taking ≠ .holding)

/-- A slot issues the read of its next slice: the place waits for it and the next-read index advances (R34). The
address of the slice is taken modulo 2^64 (DESIGN CHOICE, assumption 22). -/
def State.issueSliceRead (k : SlotId) (w : SlotWork) (e : SendEntry) (s : State) : State :=
  State.issueRead (.slicer k w.occupation w.nextRead)
    (e.address + BitVec.ofNat 64 (Config.sliceBytes * w.nextRead)) (e.sliceLength w.nextRead)
    { s.setSlot k (some { w.fillPlace (.waiting w.nextRead) with nextRead := w.nextRead + 1 }) with
      te.readPointer := k }

/-- One slice read is issued, if a slot wants one and conditions allow (R34). -/
def State.sliceReadIssue (s : State) : State :=
  if s.sliceReadEnabled then
    match s.readSlot with
    | none => s
    | some k =>
      match s.slot k with
      | none => s
      | some w =>
        match s.slotEntry w with
        | none => s
        | some e => s.issueSliceRead k w e
  else s

/-- SLICE_READ_ISSUE (R34). -/
def execSliceReadIssue (s : State) : Result := .next s.sliceReadIssue

/-- Returned slice data fills the place that waited for it if the slot still holds the occupation that issued
the read; else it is discarded (R35). In HALTED it is discarded (R54). -/
def State.fillWaiting (k : SlotId) (occupation index : Nat) (data : List Byte) (s : State) : State :=
  if s.isHalted then s
  else
    match s.slot k with
    | none => s
    | some w =>
      if w.occupation = occupation then
        s.setSlot k (some (w.replacePlace (.waiting index) (.ready index data)))
      else s

/-- A completion part of a slice read arrives; the last one completes the read, whose entry leaves the tracker
(R35, R180). -/
def State.receiveSliceData (id : Nat) (data : List Byte) (s : State) : State :=
  match s.readOf id with
  | none => s
  | some r =>
    match r.owner with
    | .requestProcessor => s
    | .slicer k occupation index =>
      if (r.receive data).complete then
        (s.dropRead id).fillWaiting k occupation index (r.receive data).received
      else s.updateRead id (r.receive data)

/-- SLICE_READ_RETURN (R35). -/
def execSliceReadReturn (id : Nat) (data : List Byte) (s : State) : Result :=
  .next (s.receiveSliceData id data)

/-! ### Halt (R181, R185) -/

/-- A running timer that a halt stops does not expire (R25, R131, R185). -/
def Timer.halt (t : Timer) : Timer := if t.isRunning then .stopped else t

/-- The entry to HALTED: the cause and the failed read's address are recorded; the write queue, the backlog,
the notice queue and the lane queues are emptied; the timers of reads, lanes and openings stop and those of
send entries are suspended; an owed interrupt awaits nothing more, and the condition is judged (R25, R54,
R131, R171, R185, R188). -/
def State.halt (cause : HaltCause) (address : HostAddr) (s : State) : State :=
  State.judgeInterrupt s.interruptCondition
    { s with
      hau.engine := .halted
      hau.haltCause := cause
      hau.faultAddress := address
      hau.writeQueue := []
      hau.tracker := s.hau.tracker.map fun r => { r with timer := r.timer.halt }
      hau.interruptOwed := s.hau.interruptOwed.map fun _ => 0
      st := s.st.map fun r => { r with syncTimer := r.syncTimer.halt }
      te.tx := s.te.tx.map fun t => { t with list := t.list.map SendEntry.suspendTimers }
      lm.noticeQueue := []
      lm.lanes := s.lm.lanes.map fun l => { l with txQueue := [], silenceTimer := l.silenceTimer.halt }
      cp.backlog := [] }

/-- A read ends with an error: its entry leaves the tracker and the engine halts; while the engine is already
HALTED nothing changes (R180, R181, R185). -/
def State.readErrors (id : Nat) (s : State) : State :=
  if s.isHalted then s
  else
    match s.readOf id with
    | none => s
    | some r => (s.dropRead id).halt .readError r.address

/-- A read's timer runs out: the engine halts; the entry stays until the bytes arrive or a reset forgets it
(R180, R181, R185). -/
def State.readTimesOut (id : Nat) (s : State) : State :=
  if s.isHalted then s
  else
    match s.readOf id with
    | none => s
    | some r => if r.timer.isRunning then s.halt .readTimeout r.address else s

/-- READ_ERROR (R181). -/
def execReadError (id : Nat) (s : State) : Result := .next (s.readErrors id)
/-- READ_TIMEOUT (R181). -/
def execReadTimeout (id : Nat) (s : State) : Result := .next (s.readTimesOut id)

/-! ### Forgotten reads (R182) -/

/-- The transaction identifier of a forgotten read may be given to a new read again (R182). DESIGN CHOICE: one return
stands for everything that returns for the read, and no count of bytes still due is kept (assumption 23). -/
def State.releaseIdentifier (id : Nat) (s : State) : State :=
  { s with hau.forgotten := s.hau.forgotten.filter fun n => decide (n ≠ id) }

/-- FORGOTTEN_READ_RETURN (R182): all the data of the read, or its error, has returned and is discarded
(assumption 23). -/
def execForgottenReadReturn (id : Nat) (s : State) : Result := .next (s.releaseIdentifier id)
/-- FORGOTTEN_READ_EXPIRY (R182). -/
def execForgottenReadExpiry (id : Nat) (s : State) : Result := .next (s.releaseIdentifier id)

end Sys2Proof.Machine
end

