-- ==== Sys2Proof/Machine/Lanes.lean ====
section
/-! DEFINITION. The Link Manager's commands: LANE_UNIT_TRANSMIT, ALIGN_RECEIVED, BAD_UNIT_RECEIVED,
IDLE_RECEIVED and SILENCE_TIMER_EXPIRY (Chapter 6). -/

namespace Sys2Proof.Machine

/-- The ALIGN that a training lane makes: configured role, configured epoch and its ready indication (R110). -/
def State.alignUnit (s : State) (ready : Bool) : LinkUnit :=
  .align s.rp.config.role s.rp.config.localEpoch ready

/-- A lane begins to transmit a unit, by its state: nothing in OFF, ALIGN in SEEKING and ALIGNED, the oldest
unit of its queue in UP, or IDLE when the queue is empty (R110). -/
def State.transmit (l : LaneId) (s : State) : State :=
  match (s.lane l).state with
  | .off => s
  | .seeking => s.emit (.laneUnit l (s.alignUnit false).bytes)
  | .aligned => s.emit (.laneUnit l (s.alignUnit true).bytes)
  | .up =>
    match (s.lane l).txQueue with
    | [] => s.emit (.laneUnit l LinkUnit.idle.bytes)
    | u :: rest => (s.setLane l { s.lane l with txQueue := rest }).emit (.laneUnit l u.bytes)

/-- LANE_UNIT_TRANSMIT (R110). -/
def execLaneUnitTransmit (lane : LaneId) (s : State) : Result := .next (s.transmit lane)

/-- ALIGN_RECEIVED (R114, R115). An ALIGN of epoch 0 is malformed, so it is a bad unit (R111). -/
def execAlignReceived (lane : LaneId) (role : Role) (epoch : Byte) (ready : Bool) (s : State) : Result :=
  .next (if epoch = 0 then s.hearBad lane else s.hearAlign lane role epoch ready)

/-- BAD_UNIT_RECEIVED (R111, R116). -/
def execBadUnitReceived (lane : LaneId) (s : State) : Result := .next (s.hearBad lane)

/-- IDLE_RECEIVED (R111, R113): an UP lane consumes it. -/
def execIdleReceived (lane : LaneId) (s : State) : Result := .next (s.hearUnit lane fun s => s)

/-- The silence timer of an ALIGNED or UP lane expires, and the lane returns to SEEKING (R117). -/
def State.silence (l : LaneId) (s : State) : State :=
  if s.isHalted then s
  else if ((s.lane l).state = .aligned ∨ (s.lane l).state = .up) ∧ (s.lane l).silenceTimer.isRunning then
    s.seekLane l
  else s

/-- SILENCE_TIMER_EXPIRY (R117). -/
def execSilenceTimerExpiry (lane : LaneId) (s : State) : Result := .next (s.silence lane)

end Sys2Proof.Machine
end

