-- ==== Sys2Proof/Machine/Receive.lean ====
section
/-! DEFINITION. The Receive Engine's commands: SLICE_RECEIVED and DATA_WRITE_DEPARTS (Chapter 4). -/

namespace Sys2Proof.Machine

/-- The format check of R72: a slice not marked last carries 256 bytes, one marked last 1 to 256, and the index
is 0 to 63. -/
def SliceUnit.formatGood (u : SliceUnit) : Bool :=
  decide (u.index.toNat < 64) &&
    (if u.last then decide (1 ≤ u.payload.length ∧ u.payload.length ≤ Config.sliceBytes)
     else decide (u.payload.length = Config.sliceBytes))

/-- Some flag of an index above `i` is set (R79). -/
def ReContext.hasAbove (c : ReContext) (i : Nat) : Bool :=
  (List.range 64).any fun k => decide (i < k) && c.received.getLsbD k

/-- Every flag from 0 to `n` is set (R81). -/
def ReContext.allUpTo (c : ReContext) (n : Nat) : Bool :=
  (List.range (n + 1)).all fun k => c.received.getLsbD k

/-- The slice disagrees with what the context knows of the message's end (R79). -/
def ReContext.disagrees (c : ReContext) (u : SliceUnit) : Bool :=
  let i := u.index.toNat
  if u.last then
    c.hasAbove i ||
      match c.lastSlice with
      | some (j, _) => decide (j ≠ i)
      | none => false
  else
    match c.lastSlice with
    | some (j, _) => decide (j < i)
    | none => false

/-- The slice's end passes the capacity of the bound buffer (R80). -/
def ReContext.overflows (c : ReContext) (u : SliceUnit) : Bool :=
  decide (c.buffer.capacity < Config.sliceBytes * u.index.toNat + u.payload.length)

/-- The context after a slice's data write has been queued: flag set, end recorded, LANDING when the last gap is
filled (R81). -/
def ReContext.merged (c : ReContext) (u : SliceUnit) : ReContext :=
  let i := u.index.toNat
  let c1 := { c with
    received := c.received ||| (1#64 <<< i)
    writesOutstanding := c.writesOutstanding + 1
    lastSlice := if u.last then some (i, u.payload.length) else c.lastSlice }
  match c1.lastSlice with
  | some (j, _) => if c1.allUpTo j then { c1 with state := .landing } else c1
  | none => c1

/-- A slice that does not fit makes its context OVERSIZE and draws REJECT(TOO_LONG); with no write outstanding
the delivery check follows (R80, R83). -/
def State.oversize (c : ReContext) (s : State) : State :=
  let s1 := (s.setContext { c with state := .oversize }).produceNotice
    (.reject c.stream (s.stream c.stream).gen c.msn .tooLong)
  if c.writesOutstanding = 0 then s1.deliveryCheck c.stream else s1

/-- Queue the data write of a slice and merge it into its context (R60, R81). DESIGN CHOICE: host addresses add modulo
2^64, so a buffer that runs past the last host address goes on at address 0 (assumption 22). -/
def State.writeSlice (c : ReContext) (u : SliceUnit) (s : State) : State :=
  { s.setContext (c.merged u) with
    hau.writeQueue := s.hau.writeQueue ++
      [.data c.occupancy (c.buffer.address + BitVec.ofNat 64 (Config.sliceBytes * u.index.toNat)) u.payload] }

/-- Merge a slice into an ASSEMBLING context: duplicates, disagreeing slices and slices that meet a full write
queue are dropped, one that does not fit makes the context OVERSIZE, any other is written (R79 to R81). -/
def State.mergeSlice (c : ReContext) (u : SliceUnit) (s : State) : State :=
  if c.received.getLsbD u.index.toNat then s
  else if c.disagrees u then s.countStray c.stream
  else if c.overflows u then s.oversize c
  else if s.writeRoom then s.writeSlice c u
  else s

/-- A slice of a message that has a context is handled by the context's state (R76). -/
def State.sliceForContext (c : ReContext) (u : SliceUnit) (s : State) : State :=
  match c.state with
  | .assembling => s.mergeSlice c u
  | .landing => s
  | .complete => s.produceNotice (.ack c.stream (s.stream c.stream).gen c.msn)
  | .oversize => s.produceNotice (.reject c.stream (s.stream c.stream).gen c.msn .tooLong)

/-- A DEFER outcome: suppressed if the deferral note holds the pair, else produced, noted and counted (R78). -/
def State.deferSlice (u : SliceUnit) (reason : DeferReason) (s : State) : State :=
  let i := u.stream
  if (s.stream i).deferralNote = some (u.msn, u.attempt) then s
  else
    let s1 := s.produceNotice (.defer i (s.stream i).gen u.msn u.attempt reason)
    let s2 := s1.setStream i { s1.stream i with deferralNote := some (u.msn, u.attempt) }
    s2.setRxs i { s2.rxs i with defersSent := satInc (s2.rxs i).defersSent }

/-- The context that the first slice of a new message binds (R77). -/
def newContext (i : StreamId) (m : Msn) (b : Buffer) (occupancy : Nat) : ReContext where
  stream := i
  msn := m
  state := .assembling
  buffer := b
  received := 0
  lastSlice := none
  writesOutstanding := 0
  occupancy := occupancy

/-- Bind the head buffer and a free context to a new message, and merge its first slice (R60, R77). -/
def State.bindSlice (u : SliceUnit) (b : Buffer) (rest : List Buffer) (s : State) : State :=
  let c := newContext u.stream u.msn b s.re.nextOccupancy
  let s1 := s.setRxs u.stream { s.rxs u.stream with bufferList := rest }
  State.mergeSlice c u
    { s1 with
      re.contexts := s1.re.contexts ++ [c]
      re.nextOccupancy := s1.re.nextOccupancy + 1 }

/-- A slice of a new message: deferred without a buffer or a context, else bound and merged (R77). -/
def State.newMessage (u : SliceUnit) (s : State) : State :=
  match (s.rxs u.stream).bufferList with
  | [] => s.deferSlice u .noBuffer
  | b :: rest =>
    if s.re.contexts.length < Config.contextPoolSize then s.bindSlice u b rest
    else s.deferSlice u .noContext

/-- A slice behind the window draws the outcome recorded for its MSN again, or is a stray (R75). -/
def State.behindWindow (u : SliceUnit) (s : State) : State :=
  match (s.stream u.stream).history.find? fun p => decide (p.1 = u.msn) with
  | some (_, .ack) => s.produceNotice (.ack u.stream (s.stream u.stream).gen u.msn)
  | some (_, .tooLong) => s.produceNotice (.reject u.stream (s.stream u.stream).gen u.msn .tooLong)
  | none => s.countStray u.stream

/-- A slice under the current generation is placed by its position in the receive window (R74). -/
def State.sliceInGeneration (u : SliceUnit) (s : State) : State :=
  let d := (s.rxs u.stream).position u.msn
  if d < Config.windowSize then
    match s.contextFor u.stream u.msn with
    | some c => s.sliceForContext c u
    | none => s.newMessage u
  else if 256 - Config.windowSize ≤ d then s.behindWindow u
  else s.countStray u.stream

/-- A slice of an OPEN or DRAINING stream: another generation makes it a stray (R73). -/
def State.sliceOnOpen (u : SliceUnit) (s : State) : State :=
  if u.gen = (s.stream u.stream).gen then s.sliceInGeneration u else s.countStray u.stream

/-- Classify an arriving slice, in the order of R72 to R77. -/
def State.sliceArrives (u : SliceUnit) (s : State) : State :=
  if u.formatGood then
    match (s.stream u.stream).state with
    | .closed => s.produceNotice (.reject u.stream u.gen u.msn .notOpen)
    | .releasing => s.produceNotice (.reject u.stream u.gen u.msn .notOpen)
    | .faulted => s.produceNotice (.reject u.stream u.gen u.msn .notOpen)
    | .opening => s
    | .opened => s.sliceOnOpen u
    | .draining => s.sliceOnOpen u
  else s.countStray u.stream

/-- SLICE_RECEIVED (R72). -/
def execSliceReceived (lane : LaneId) (stream : StreamId) (gen : Gen) (msn : Msn) (attempt : Attempt)
    (index : Byte) (last : Bool) (payload : List Byte) (s : State) : Result :=
  .next (s.hearUnit lane (State.sliceArrives ⟨stream, gen, msn, attempt, index, last, payload⟩))

/-- A data write of a context has departed: one write fewer is outstanding; a LANDING context with none left is
COMPLETE and draws its ACK; a ready context starts the delivery check (R82, R83). -/
def State.writeDeparted (c : ReContext) (s : State) : State :=
  let left := c.writesOutstanding - 1
  if left = 0 then
    match c.state with
    | .landing =>
      ((s.setContext { c with writesOutstanding := left, state := .complete }).produceNotice
        (.ack c.stream (s.stream c.stream).gen c.msn)).deliveryCheck c.stream
    | .oversize => (s.setContext { c with writesOutstanding := left }).deliveryCheck c.stream
    | _ => s.setContext { c with writesOutstanding := left }
  else s.setContext { c with writesOutstanding := left }

/-- The context that still holds an occupancy, if one does (R82). -/
def State.contextOf (s : State) (occupancy : Nat) : Option ReContext :=
  s.re.contexts.find? fun c => decide (c.occupancy = occupancy)

/-- The data write at the head of the write queue leaves for the port, and its context learns of it if the same
occupancy still holds it (R82, R184). -/
def State.dataWriteDeparts (s : State) : State :=
  match s.hau.writeQueue with
  | .data occupancy address payload :: rest =>
    let s1 := State.emit { s with hau.writeQueue := rest } (.hostWrite address payload)
    match s1.contextOf occupancy with
    | none => s1
    | some c => s1.writeDeparted c
  | _ => s

/-- DATA_WRITE_DEPARTS (R82, R184). -/
def execDataWriteDeparts (s : State) : Result := .next s.dataWriteDeparts

end Sys2Proof.Machine
end

