-- ==== Sys2Proof/Machine/Streams.lean ====
section
/-! DEFINITION. The Stream Table's commands: SYNC_RECEIVED, SYNC_ACK_RECEIVED and SYNC_TIMER_EXPIRY (Chapter
1, sections 1.3 and 1.4). -/

namespace Sys2Proof.Machine

/-- Role B adopts the partner's generation: it answers SYNC_ACK, the sync timer stops, the stream is OPEN and its
OPEN finishes (R8). -/
def State.adopt (i : StreamId) (g : Gen) (s : State) : State :=
  let s1 := (s.setStream i { s.stream i with gen := g, lastGen := g }).produceNotice (.syncAck i g)
  (s1.setStream i { s1.stream i with syncTimer := .stopped, state := .opened }).finishOpen i .success

/-- A SYNC on an OPENING stream is resolved by its generation and then by the role (R8). -/
def State.syncOpening (i : StreamId) (g : Gen) (s : State) : State :=
  if g = (s.stream i).gen then s.produceNotice (.syncAck i g)
  else
    match s.rp.config.role with
    | .b => s.adopt i g
    | .a => s.sendSync i

/-- A SYNC on an OPEN or DRAINING stream is a duplicate or a resync (R9, R10). -/
def State.syncOpened (i : StreamId) (g : Gen) (s : State) : State :=
  if g = (s.stream i).gen then s.produceNotice (.syncAck i g) else s.resync i g

/-- The Stream Table takes a SYNC (R8 to R11). -/
def State.syncArrives (i : StreamId) (g : Gen) (s : State) : State :=
  match (s.stream i).state with
  | .opening => s.syncOpening i g
  | .opened => s.syncOpened i g
  | .draining => s.syncOpened i g
  | .closed => s
  | .releasing => s
  | .faulted => s

/-- SYNC_RECEIVED (R8). -/
def execSyncReceived (lane : LaneId) (stream : StreamId) (gen : Gen) (s : State) : Result :=
  .next (s.hearUnit lane (State.syncArrives stream gen))

/-- The Stream Table takes a SYNC_ACK: on an OPENING stream whose proposal it accepts, the stream is OPEN and
its OPEN finishes; any other is ignored (R7). -/
def State.syncAckArrives (i : StreamId) (g : Gen) (s : State) : State :=
  if (s.stream i).state = .opening ∧ g = (s.stream i).gen then
    (s.setStream i { s.stream i with syncTimer := .stopped, state := .opened }).finishOpen i .success
  else s

/-- SYNC_ACK_RECEIVED (R7). -/
def execSyncAckReceived (lane : LaneId) (stream : StreamId) (gen : Gen) (s : State) : Result :=
  .next (s.hearUnit lane (State.syncAckArrives stream gen))

/-- The sync timer of an OPENING stream expires: SYNC(`gen`) is produced and counted, and the timer restarts
(R5); in HALTED it does not expire (R25). -/
def State.syncExpiry (i : StreamId) (s : State) : State :=
  if s.isHalted then s
  else if (s.stream i).state = .opening ∧ (s.stream i).syncTimer.isRunning then s.sendSync i
  else s

/-- SYNC_TIMER_EXPIRY (R5). -/
def execSyncTimerExpiry (stream : StreamId) (s : State) : Result := .next (s.syncExpiry stream)

end Sys2Proof.Machine
end

