-- ==== Sys2Proof/Machine/Transmit.lean ====
section
/-! DEFINITION. The Transmit Engine's commands: SLICER_SLOT_FILL, UNIT_PLACEMENT, ACK_RECEIVED,
DEFER_RECEIVED, REJECT_TOO_LONG_RECEIVED, REJECT_NOT_OPEN_RECEIVED, ACK_TIMER_EXPIRY and
HOLDOFF_TIMER_EXPIRY (Chapter 2, with R126). -/

namespace Sys2Proof.Machine

/-! ### Slot fill (R32) -/

/-- The conditions of a slot fill that do not concern one entry: the link is UP and the engine is not HALTED
(R32). -/
def State.fillEnabled (s : State) : Bool := decide (s.lm.linkState = .up) && !s.isHalted

/-- The occupation with which a slot takes an entry (R32). -/
def newWork (i : StreamId) (e : SendEntry) (occupation : Nat) : SlotWork where
  stream := i
  msn := e.msn
  attempt := e.attempt
  occupation := occupation
  nextRead := 0
  nextHand := 0
  placeA := .free
  placeB := .free

/-- A slot takes an entry: the entry becomes SENDING and the slicer pointer names its stream (R32). -/
def State.fillSlot (k : SlotId) (i : StreamId) (e : SendEntry) (s : State) : State :=
  let s1 := s.setEntry i e.msn { e with state := .sending }
  { s1.setSlot k (some (newWork i e s.te.nextOccupation)) with
    te.slicerPointer := i
    te.nextOccupation := s.te.nextOccupation + 1 }

/-- One slot fill, if a slot is free and an entry eligible (R32). -/
def State.slotFill (s : State) : State :=
  if s.fillEnabled then
    match s.freeSlot, s.fillStream with
    | some k, some i =>
      match s.eligibleEntry i with
      | some e => s.fillSlot k i e
      | none => s
    | _, _ => s
  else s

/-- SLICER_SLOT_FILL (R32). -/
def execSlicerSlotFill (s : State) : Result := .next s.slotFill

/-! ### Placement (R36, R37, R126) -/

/-- The lane that takes the next unit: the first UP lane with room after `lane_pointer` (R126). -/
def State.placementLane (s : State) : Option LaneId :=
  (turnAfter s.lm.lanePointer).find? fun l => decide ((s.lane l).state = .up) && (s.lane l).hasRoom

/-- A unit is placed on a lane: it joins the lane's queue and `lane_pointer` names the lane (R126, R127). -/
def State.placeUnit (l : LaneId) (u : LinkUnit) (s : State) : State :=
  { s.setLane l { s.lane l with txQueue := (s.lane l).txQueue ++ [u] } with lm.lanePointer := l }

/-- The slot whose ready slice is offered: the first in slot order after the one last accepted (R36). -/
def State.offeringSlot (s : State) : Option SlotId :=
  (turnAfter s.te.offerPointer).find? fun k => s.hasReadySlice k

/-- The SLICE that a slot hands next (R33). -/
def State.sliceOf (s : State) (w : SlotWork) (e : SendEntry) (data : List Byte) : SliceUnit where
  stream := w.stream
  gen := (s.stream w.stream).gen
  msn := w.msn
  attempt := w.attempt
  index := BitVec.ofNat 8 w.nextHand
  last := decide (w.nextHand + 1 = e.slices)
  payload := data

/-- The slot after it has handed a slice that is not the last: the place is free and the next-hand index
advances (R36). -/
def SlotWork.handed (w : SlotWork) (data : List Byte) : SlotWork :=
  { w.replacePlace (.ready w.nextHand data) .free with nextHand := w.nextHand + 1 }

/-- A lane accepts a slot's ready slice: it is placed and counted; the last slice makes the entry AWAITING and
frees the slot (R36, R37). -/
def State.acceptSlice (l : LaneId) (k : SlotId) (w : SlotWork) (e : SendEntry) (data : List Byte)
    (s : State) : State :=
  let s1 := s.placeUnit l (.slice (s.sliceOf w e data))
  let t := s1.txs w.stream
  let s2 := s1.setTxs w.stream { t with slicesSent := satInc t.slicesSent }
  let s3 : State := { s2 with te.offerPointer := k }
  if w.nextHand + 1 = e.slices then
    (s3.setEntry w.stream w.msn
      { e with state := .awaiting, ackTimer := .running s.rp.config.ackTimeout }).setSlot k none
  else s3.setSlot k (some (w.handed data))

/-- One placement: the head notice if there is one, else a ready slice (R126). -/
def State.placement (s : State) : State :=
  if s.isHalted then s
  else
    match s.placementLane with
    | none => s
    | some l =>
      match s.lm.noticeQueue with
      | n :: rest => State.placeUnit l (.notice n) { s with lm.noticeQueue := rest }
      | [] =>
        match s.offeringSlot with
        | none => s
        | some k =>
          match s.slot k with
          | none => s
          | some w =>
            match s.slotEntry w, w.readyData with
            | some e, some data => s.acceptSlice l k w e data
            | _, _ => s

/-- UNIT_PLACEMENT (R126). -/
def execUnitPlacement (s : State) : Result := .next s.placement

/-! ### Notices at the sender (R41 to R45) -/

/-- The checks of R41 on a notice's stream and generation: the stream is OPEN or DRAINING under it. The check
of the engine state stands at the reception (`State.hearUnit`). -/
def State.noticeApplies (s : State) (i : StreamId) (g : Gen) : Bool :=
  decide (((s.stream i).state = .opened ∨ (s.stream i).state = .draining) ∧ (s.stream i).gen = g)

/-- The entry a notice applies to, if any: the one its MSN locates among the first eight (R41). -/
def State.noticeEntry (s : State) (i : StreamId) (g : Gen) (m : Msn) : Option SendEntry :=
  if s.noticeApplies i g then (s.txs i).locateInWindow m else none

/-- An unfinished entry is settled as ACKED or FAILED: its slot is freed, its timers are cancelled, and
retirement follows (R42, R44). -/
def State.settleEntry (i : StreamId) (m : Msn) (e : SendEntry) (x : EntryState) (s : State) : State :=
  ((s.freeSlotOf i e.msn).setEntry i m { e.cancelTimers with state := x }).retire i

/-- An ACK, or a REJECT(TOO_LONG), is applied to its entry; on a finished entry it is ignored (R42, R44). -/
def State.applyOutcome (i : StreamId) (g : Gen) (m : Msn) (x : EntryState) (s : State) : State :=
  match s.noticeEntry i g m with
  | none => s
  | some e => if e.finished then s else s.settleEntry i m e x

/-- ACK_RECEIVED (R42). -/
def execAckReceived (lane : LaneId) (stream : StreamId) (gen : Gen) (msn : Msn) (s : State) : Result :=
  .next (s.hearUnit lane (State.applyOutcome stream gen msn .acked))

/-- REJECT_TOO_LONG_RECEIVED (R44). -/
def execRejectTooLongReceived (lane : LaneId) (stream : StreamId) (gen : Gen) (msn : Msn) (s : State) :
    Result :=
  .next (s.hearUnit lane (State.applyOutcome stream gen msn (.failed .remoteTooLong)))

/-- A DEFER is accepted for an entry: it is HELD, its slot is freed or its ack timer cancelled, the holdoff
timer starts, and both defer counts rise (R40, R43). -/
def State.holdEntry (i : StreamId) (m : Msn) (e : SendEntry) (s : State) : State :=
  let s1 := (s.freeSlotOf i e.msn).setEntry i m
    { e with
      state := .held
      ackTimer := .stopped
      holdoffTimer := .running s.rp.config.deferHoldoff
      defers := satInc e.defers }
  s1.setTxs i { s1.txs i with defersReceived := satInc (s1.txs i).defersReceived }

/-- A DEFER is applied: only to a SENDING or AWAITING entry whose current attempt it names (R43). -/
def State.applyDefer (i : StreamId) (g : Gen) (m : Msn) (a : Attempt) (s : State) : State :=
  match s.noticeEntry i g m with
  | none => s
  | some e =>
    if (e.state = .sending ∨ e.state = .awaiting) ∧ s.currentAttempt i e = a then s.holdEntry i m e else s

/-- DEFER_RECEIVED (R43): its reason does not change what happens. -/
def execDeferReceived (lane : LaneId) (stream : StreamId) (gen : Gen) (msn : Msn) (attempt : Attempt)
    (_reason : DeferReason) (s : State) : Result :=
  .next (s.hearUnit lane (State.applyDefer stream gen msn attempt))

/-- The entry that a REJECT(NOT_OPEN) names: the unfinished one its MSN locates among the first eight, if any
(R45). -/
def State.rejectedEntry (s : State) (i : StreamId) (m : Msn) : Option Msn :=
  match (s.txs i).locateInWindow m with
  | none => none
  | some e => if e.finished then none else some e.msn

/-- A REJECT(NOT_OPEN) under the current generation reports a REMOTE_CLOSED fault (R45). -/
def State.applyNotOpen (i : StreamId) (g : Gen) (m : Msn) (s : State) : State :=
  if s.noticeApplies i g then s.reportFault i (.remoteClosed (s.rejectedEntry i m)) else s

/-- REJECT_NOT_OPEN_RECEIVED (R45). -/
def execRejectNotOpenReceived (lane : LaneId) (stream : StreamId) (gen : Gen) (msn : Msn) (s : State) :
    Result :=
  .next (s.hearUnit lane (State.applyNotOpen stream gen msn))

/-! ### Timers (R39, R40) -/

/-- The ack timer of an AWAITING entry expires: one more retry; below the limit the entry is QUEUED with the
next attempt, at the limit a NO_RESPONSE fault names it (R39). -/
def State.ackTimeout (i : StreamId) (m : Msn) (e : SendEntry) (s : State) : State :=
  let e1 := { e with retries := e.retries + 1, ackTimer := .stopped }
  if e1.retries = s.rp.config.retryLimit then
    (s.setEntry i m e1).reportFault i (.noResponse e.msn)
  else
    let s1 := s.setEntry i m { e1 with state := .queued, attempt := e.attempt + 1 }
    s1.setTxs i { s1.txs i with retransmissions := satInc (s1.txs i).retransmissions }

/-- The ack timer of the entry for an MSN expires, if it runs (R39). -/
def State.ackExpiry (i : StreamId) (m : Msn) (s : State) : State :=
  if s.isHalted then s
  else
    match (s.txs i).locate m with
    | none => s
    | some e => if e.state = .awaiting ∧ e.ackTimer.isRunning then s.ackTimeout i m e else s

/-- ACK_TIMER_EXPIRY (R39). -/
def execAckTimerExpiry (stream : StreamId) (msn : Msn) (s : State) : Result := .next (s.ackExpiry stream msn)

/-- The holdoff timer of the entry for an MSN expires, if it runs: the entry is QUEUED with the next attempt
(R40). -/
def State.holdoffExpiry (i : StreamId) (m : Msn) (s : State) : State :=
  if s.isHalted then s
  else
    match (s.txs i).locate m with
    | none => s
    | some e =>
      if e.state = .held ∧ e.holdoffTimer.isRunning then
        s.setEntry i m { e with state := .queued, attempt := e.attempt + 1, holdoffTimer := .stopped }
      else s

/-- HOLDOFF_TIMER_EXPIRY (R40). -/
def execHoldoffTimerExpiry (stream : StreamId) (msn : Msn) (s : State) : Result :=
  .next (s.holdoffExpiry stream msn)

end Sys2Proof.Machine
end

