-- ==== Sys2Proof/Machine/Dispatch.lean ====
section
/-! DEFINITION. exec: what each command does, one arm per row of the opcode table. -/

namespace Sys2Proof.Machine

/-- The effect of a command on everything but the queue of commands that wait. -/
def exec (i : Instr) (s : State) : Host.Outcome State Fault Refusal :=
  match i with
  | .portReset => Sys2Proof.Machine.execPortReset s
  | .softReset => Sys2Proof.Machine.execSoftReset s
  | .enableSet intEnable => Sys2Proof.Machine.execEnableSet intEnable s
  | .enableClear intEnable => Sys2Proof.Machine.execEnableClear intEnable s
  | .intEnableWrite enable intEnable => Sys2Proof.Machine.execIntEnableWrite enable intEnable s
  | .rqRingWrite value => Sys2Proof.Machine.execRqRingWrite value s
  | .cqRingWrite value => Sys2Proof.Machine.execCqRingWrite value s
  | .rqTailWrite value => Sys2Proof.Machine.execRqTailWrite value s
  | .cqHeadWrite value => Sys2Proof.Machine.execCqHeadWrite value s
  | .registerWrite offset size value => Sys2Proof.Machine.execRegisterWrite offset size value s
  | .configure tag laneMask role epoch retryLimit ackTimeout deferHoldoff syncInterval => Sys2Proof.Machine.execConfigure tag laneMask role epoch retryLimit ackTimeout deferHoldoff syncInterval s
  | .openStream stream tag => Sys2Proof.Machine.execOpenStream stream tag s
  | .closeStream stream tag mode => Sys2Proof.Machine.execCloseStream stream tag mode s
  | .send stream tag address length => Sys2Proof.Machine.execSend stream tag address length s
  | .post stream tag address capacity => Sys2Proof.Machine.execPost stream tag address capacity s
  | .fence stream tag scope => Sys2Proof.Machine.execFence stream tag scope s
  | .queryStream stream tag clear => Sys2Proof.Machine.execQueryStream stream tag clear s
  | .queryLink tag clear => Sys2Proof.Machine.execQueryLink tag clear s
  | .reservationGrant => Sys2Proof.Machine.execReservationGrant s
  | .recordReadIssue => Sys2Proof.Machine.execRecordReadIssue s
  | .recordReadComplete data => Sys2Proof.Machine.execRecordReadComplete data s
  | .sliceReadIssue => Sys2Proof.Machine.execSliceReadIssue s
  | .sliceReadReturn id data => Sys2Proof.Machine.execSliceReadReturn id data s
  | .readError id => Sys2Proof.Machine.execReadError id s
  | .readTimeout id => Sys2Proof.Machine.execReadTimeout id s
  | .forgottenReadReturn id => Sys2Proof.Machine.execForgottenReadReturn id s
  | .slicerSlotFill => Sys2Proof.Machine.execSlicerSlotFill s
  | .unitPlacement => Sys2Proof.Machine.execUnitPlacement s
  | .laneUnitTransmit lane => Sys2Proof.Machine.execLaneUnitTransmit lane s
  | .alignReceived lane role epoch ready => Sys2Proof.Machine.execAlignReceived lane role epoch ready s
  | .badUnitReceived lane => Sys2Proof.Machine.execBadUnitReceived lane s
  | .idleReceived lane => Sys2Proof.Machine.execIdleReceived lane s
  | .silenceTimerExpiry lane => Sys2Proof.Machine.execSilenceTimerExpiry lane s
  | .sliceReceived lane stream gen msn attempt index last payload => Sys2Proof.Machine.execSliceReceived lane stream gen msn attempt index last payload s
  | .syncReceived lane stream gen => Sys2Proof.Machine.execSyncReceived lane stream gen s
  | .syncAckReceived lane stream gen => Sys2Proof.Machine.execSyncAckReceived lane stream gen s
  | .syncTimerExpiry stream => Sys2Proof.Machine.execSyncTimerExpiry stream s
  | .ackReceived lane stream gen msn => Sys2Proof.Machine.execAckReceived lane stream gen msn s
  | .deferReceived lane stream gen msn attempt reason => Sys2Proof.Machine.execDeferReceived lane stream gen msn attempt reason s
  | .rejectTooLongReceived lane stream gen msn => Sys2Proof.Machine.execRejectTooLongReceived lane stream gen msn s
  | .rejectNotOpenReceived lane stream gen msn => Sys2Proof.Machine.execRejectNotOpenReceived lane stream gen msn s
  | .ackTimerExpiry stream msn => Sys2Proof.Machine.execAckTimerExpiry stream msn s
  | .holdoffTimerExpiry stream msn => Sys2Proof.Machine.execHoldoffTimerExpiry stream msn s
  | .dataWriteDeparts => Sys2Proof.Machine.execDataWriteDeparts s
  | .recordWriteDeparts => Sys2Proof.Machine.execRecordWriteDeparts s
  | .backlogMove => Sys2Proof.Machine.execBacklogMove s
  | .interruptMessage msiEnabled => Sys2Proof.Machine.execInterruptMessage msiEnabled s
  | .linkEventGrant => Sys2Proof.Machine.execLinkEventGrant s
  | .streamEventGrant => Sys2Proof.Machine.execStreamEventGrant s
  | .releaseListGrant => Sys2Proof.Machine.execReleaseListGrant s
  | .forgottenReadExpiry id => Sys2Proof.Machine.execForgottenReadExpiry id s

end Sys2Proof.Machine
end

