-- ==== Sys2Proof/Machine/Urgent.lean ====
section
/-! DEFINITION. The steps the part takes of its own accord at once. The manual lets several of them fall in the
event that makes them possible: a slot fill (R32), a placement (R126), a grant (R161), a move out of the
backlog (R165), a read issue (R34, R137, R138) and the sending of an interrupt (R188). The opcode table gives
each of them a row, so each is a command of its own here; this file says which of them stands to be taken in a
state, so that a sender of commands can keep to the manual's "in the same event" by sending it before anything
else (assumption 6). -/

namespace Sys2Proof.Machine

/-- Some slot fill can be made (R32). -/
def State.fillPossible (s : State) : Bool :=
  s.fillEnabled && s.freeSlot.isSome && s.fillStream.isSome

/-- Some unit can be placed (R126). -/
def State.placementPossible (s : State) : Bool :=
  !s.isHalted && s.placementLane.isSome && (!s.lm.noticeQueue.isEmpty || s.offeringSlot.isSome)

/-- Some slice read can be issued (R34). -/
def State.sliceReadPossible (s : State) : Bool := s.sliceReadEnabled && s.readSlot.isSome

/-- Some record can move out of the backlog (R165). -/
def State.movePossible (s : State) : Bool := !s.cp.backlog.isEmpty && s.writeRoom && !s.isHalted

/-- The step that the part takes next of its own accord, if one stands to be taken at once: the grants in rank
order (R161), then the others. Where two of the others stand together they touch different state or, for the
read tracker's last place, the order is that of R180. -/
def State.urgent (s : State) : Option Instr :=
  if s.linkGrantEnabled then some .linkEventGrant
  else if s.belowLinkEnabled && s.eventClaim.isSome then some .streamEventGrant
  else if s.belowLinkEnabled && s.eventClaim.isNone && s.releaseClaim.isSome then some .releaseListGrant
  else if s.reservationEnabled then some .reservationGrant
  else if s.movePossible then some .backlogMove
  else if s.hau.interruptOwed = some 0 then some (.interruptMessage true)
  else if s.recordReadEnabled then some .recordReadIssue
  else if s.fillPossible then some .slicerSlotFill
  else if s.sliceReadPossible then some .sliceReadIssue
  else if s.placementPossible then some .unitPlacement
  else none

/-- Nothing stands to be taken at once: the state the manual describes between two events. -/
def State.atRest (s : State) : Bool := s.urgent.isNone

/-- Take up to `n` of the steps that stand to be taken at once, one after another. -/
def State.settle : Nat → State → State
  | 0, s => s
  | n + 1, s =>
    match s.urgent with
    | none => s
    | some c =>
      match exec c s with
      | .next t => State.settle n t
      | _ => s

end Sys2Proof.Machine
end

