-- ==== Sys2Proof/Safety.lean ====
section
/-! DEFINITION. What claims about the OFW-2240 say: closed forms of what the manual says a command leaves
behind (the ring after several postings, the fences after several retirements, a stream after its end), and the
invariants that the manual's laws state. -/

namespace Sys2Proof.Machine

/-! ### Units and turns -/

/-- The engine is not HALTED and the lane is UP, so a good unit on it is passed on (R113). -/
abbrev HearsUp (s : State) (l : LaneId) : Prop := s.hau.engine ≠ .halted ∧ (s.lane l).state = .up

/-- The state after an UP lane has received a good unit: no bad unit in a row, a full silence limit (R111). -/
def State.heard (s : State) (l : LaneId) : State :=
  s.setLane l { s.lane l with badRun := 0, silenceTimer := .running 64 }

/-- `k` is the first number with the property in the order that starts after `p` and wraps (R32, R34, R36, R126,
R163). -/
abbrev FirstInTurn {n : Nat} [NeZero n] (p k : Fin n) (P : Fin n → Prop) : Prop :=
  P k ∧ ∀ j : Fin n, (j - (p + 1)).val < (k - (p + 1)).val → ¬P j

/-- A lane in SEEKING with the counters the lane leaves its state with (R114, R118). -/
def Lane.seekingFrom (r : Lane) : Lane where
  state := .seeking
  validRun := 0
  badRun := 0
  silenceTimer := .stopped
  txQueue := []
  badUnits := r.badUnits
  retrains := if r.state = .up then satInc r.retrains else r.retrains

/-- A lane in OFF with the counters the lane leaves its state with (R118, R128). -/
def Lane.offFrom (r : Lane) : Lane := { r.seekingFrom with state := .off }

/-- The state after lane `l`, left as `r`, has returned to SEEKING. If it was the last UP lane the link is DOWN in the
same event: the notice queue is emptied, a link change is counted, every slicer slot is free and its entry QUEUED with
the attempt after the slot's, and the timers of every entry are suspended (R50, R115 to R118, R123, R124). -/
def State.laneLost (l : LaneId) (r : Lane) (s : State) : State :=
  if (s.lane l).state = .up ∧ ∀ k, k ≠ l → (s.lane k).state ≠ .up then
    { s with
      lm := { s.lm with
        lanes := s.lm.lanes.set l r.seekingFrom
        linkState := .down
        noticeQueue := []
        linkEvent := satInc s.lm.linkEvent }
      te.slots := Vector.replicate 4 none
      te.tx := Vector.ofFn fun i => { s.txs i with
        list := (s.txs i).list.map fun e => match s.slotWorkOf i e.msn with
          | some w => { e.suspendTimers with state := .queued, attempt := w.attempt + 1 }
          | none => e.suspendTimers } }
  else s.setLane l r.seekingFrom

/-! ### Postings -/

/-- The Completion Poster after one posting into a reserved slot of a ring (R158, R160; the slot's address modulo 2^64
is assumption 22). -/
def CompletionPoster.append (ring : Ring) (cp : CompletionPoster) (c : Completion) : CompletionPoster :=
  { cp with
    backlog := cp.backlog ++ [⟨ring.baseAddress + BitVec.ofNat 64 (32 * cp.tail), cp.phase, c⟩]
    unconsumed := cp.unconsumed + 1
    reserved := cp.reserved - 1
    tail := (cp.tail + 1) % 2 ^ ring.order.toNat
    phase := if (cp.tail + 1) % 2 ^ ring.order.toNat = 0 then !cp.phase else cp.phase }

/-- What is owed once records have been posted: nothing with INT_ENABLE 0, what was owed if the condition held
already, else an interrupt that awaits every record then unwritten, the first posted one included (R187, R188,
assumption 17). -/
def State.owedByPosting (s : State) : Option Nat :=
  if s.hau.intEnable then
    if 0 < s.cp.unconsumed ∨ s.hau.engine = .halted then s.hau.interruptOwed
    else some (s.unwrittenRecords + 1)
  else none

/-- The state after these completions have been posted, in this order, into reserved slots (R158, R160, R187). -/
def State.withPosted (cs : List Completion) (s : State) : State :=
  if cs = [] then s
  else
    { s with
      cp := cs.foldl (CompletionPoster.append s.hau.cqRing) s.cp
      hau.interruptOwed := s.owedByPosting }

/-- The state after an unsolicited record has been posted into a free slot (R158, R161). -/
def State.withGranted (c : Completion) (s : State) : State :=
  { s with
    cp := { s.cp.append s.hau.cqRing c with reserved := s.cp.reserved }
    hau.interruptOwed := s.owedByPosting }

/-- A REQUEST_DONE of a request on a stream (R167). -/
def doneFor (kind : RequestKind) (i : StreamId) (tag : Tag) (status : Status) (body : DoneBody) : Completion :=
  .requestDone kind.code (streamByte i) tag status body

/-- The REQUEST_DONE of a retired send entry (R47). -/
def sendDone (i : StreamId) (e : SendEntry) : Completion :=
  doneFor .send i e.tag e.status (.sendDone e.msn e.retries e.defers)

/-- The REQUEST_DONE of a completed fence (R101). -/
def fenceDone (r : FenceRecord) : Completion :=
  .requestDone 0x06 r.scope.streamField r.tag .success (.fenceDone r.scope r.failures r.awaited)

/-! ### Retirements (R47, R100, R101) -/

/-- The fences a retirement of stream `i` completes, as it leaves them, oldest first (R101). -/
def fencesDone (i : StreamId) (e : SendEntry) (ft : List FenceRecord) : List FenceRecord :=
  (ft.map (FenceRecord.count i (decide (e.status ≠ .success)))).filter FenceRecord.settled

/-- The fences still pending after a retirement of stream `i` (R100). -/
def fencesLeft (i : StreamId) (e : SendEntry) (ft : List FenceRecord) : List FenceRecord :=
  (ft.map (FenceRecord.count i (decide (e.status ≠ .success)))).filter fun r => !r.settled

/-- The completions that the retirement of these entries posts: each SEND's, and directly after it those of the
fences it completes (R47, R101). -/
def retirePosts (i : StreamId) : List SendEntry → List FenceRecord → List Completion
  | [], _ => []
  | e :: es, ft =>
    sendDone i e :: (fencesDone i e ft).map fenceDone ++ retirePosts i es (fencesLeft i e ft)

/-- The fences still pending after the retirement of these entries (R100). -/
def fencesAfter (i : StreamId) : List SendEntry → List FenceRecord → List FenceRecord
  | [], ft => ft
  | e :: es, ft => fencesAfter i es (fencesLeft i e ft)

/-- No pending fence has all its counts at 0 (R97, R101). -/
abbrev FencesUnsettled (s : State) : Prop := ∀ r ∈ s.ft, r.settled = false

/-- The state after these entries, already gone from their list, have retired (R47). -/
def State.withRetired (i : StreamId) (es : List SendEntry) (s : State) : State :=
  { s with ft := fencesAfter i es s.ft }.withPosted (retirePosts i es s.ft)

/-! ### The end of a stream -/

/-- What a flush of the stream appends to its release list: the ARRIVALs of its ready contexts, then the
BUFFER_RETURNs of the others, each in MSN order (R88 to R90). -/
def State.flushed (s : State) (i : StreamId) (reason : ReturnReason) : List ReleaseEntry :=
  ((s.contextsInOrder i).filter ReContext.ready).map (ReContext.arrival (s.stream i).gen)
    ++ ((s.contextsInOrder i).filter fun c => !c.ready).map (ReContext.giveBack (s.stream i).gen reason)

/-- The stream's contexts are freed, its release list has grown by `entries`, and its transmit list is empty. -/
def State.emptied (i : StreamId) (entries : List ReleaseEntry) (s : State) : State :=
  let t := (s.setTxs i { s.txs i with list := [] }).setRxs i
    { s.rxs i with releaseList := (s.rxs i).releaseList ++ entries }
  { t with re.contexts := s.re.contexts.filter fun c => decide (c.stream ≠ i) }

/-- The stream's buffer list as BUFFER_RETURNs of reason STREAM_CLOSED (R63). -/
def State.listReturned (s : State) (i : StreamId) : List ReleaseEntry :=
  (s.rxs i).bufferList.map fun b => ⟨b, .bufferReturn (s.stream i).gen .streamClosed⟩

/-- The REQUEST_DONEs of the pending CLOSEs of a stream that reaches CLOSED (R18). -/
def closesDone (i : StreamId) (pend : List (Tag × CloseMode)) (cause : ReleaseCause) : List Completion :=
  pend.map fun p => doneFor .closeStream i p.1 cause.status (.closeDone p.2)

/-- The state after a stream has ended: the records `first` are posted, then the entries `failed` retire, the
release list grows by what the flush gives and by the buffer list, and the stream is RELEASING with `pend` as
its pending CLOSEs, or, where the release list is empty, CLOSED with those CLOSEs finished (R14 to R18, R20). -/
def State.ended (i : StreamId) (first : List Completion) (failed : List SendEntry)
    (flush : List ReleaseEntry) (pend : List (Tag × CloseMode)) (cause : ReleaseCause) (s : State) : State :=
  let entries := flush ++ s.listReturned i
  let r := s.stream i
  let now := decide ((s.rxs i).releaseList ++ entries = [])
  let t := s.emptied i entries
  let u := (t.setRxs i { t.rxs i with bufferList := [] }).setStream i
    { r with
      state := if now then .closed else .releasing
      releaseCause := cause
      closePending := if now then [] else pend }
  State.withPosted (first ++ retirePosts i failed s.ft ++ if now then closesDone i pend cause else [])
    { u with ft := fencesAfter i failed s.ft }

/-- The event field after one more stream event (R23). -/
def StreamRecord.withEvent (r : StreamRecord) (kind : EventKind) (gen : Gen) : StreamRecord :=
  { r with
    event := some ⟨kind, gen,
      match r.event with
      | none => 1
      | some e => satInc e.count⟩ }

/-- The state after an OPEN stream has faulted with these entries failed (R19). -/
def State.faultedBy (i : StreamId) (failed : List SendEntry) (cause : FaultCause) (reason : ReturnReason)
    (s : State) : State :=
  State.withRetired i failed
    (((s.freeSlotsOfStream i).emptied i (s.flushed i reason)).setStream i
      ({ s.stream i with state := .faulted }.withEvent (.faulted cause) (s.stream i).gen))

/-- What a fault of a DRAINING stream with these entries failed leaves: the close finishes as STREAM_FAULTED (R20). -/
def State.drainFaulted (i : StreamId) (failed : List SendEntry) (s : State) : State :=
  State.ended i [] failed (s.flushed i .streamFaulted) (s.stream i).closePending .faulted (s.freeSlotsOfStream i)

/-! ### The partner restart (R22) -/

/-- The transmit list of a stream as a partner restart fails it: finished entries keep their outcome (R48). -/
def State.resetList (s : State) (i : StreamId) : List SendEntry :=
  (s.txs i).list.map fun e => if e.finished then e else { e with state := .failed .peerReset }

/-- The release list of a DRAINING stream after a partner restart: the flush of reason PEER_RESET, then the buffer list
(R20, R63). -/
def State.resetReleases (s : State) (i : StreamId) : List ReleaseEntry :=
  (s.rxs i).releaseList ++ s.flushed i .peerReset ++ s.listReturned i

/-- What a partner restart posts for these streams, in their order, and the fences it leaves pending: the SENDs of each
OPEN and DRAINING stream in MSN order, each with the fences it completes, and the CLOSEs of a DRAINING stream that
has nothing to release (R18 to R20, R22, R47, R101). -/
def State.restartPosts (s : State) : List StreamId → List FenceRecord → List Completion × List FenceRecord
  | [], ft => ([], ft)
  | i :: is, ft =>
    let x := (s.stream i).state
    if x = .opened ∨ x = .draining then
      let rest := s.restartPosts is (fencesAfter i (s.resetList i) ft)
      (retirePosts i (s.resetList i) ft
        ++ (if x = .draining ∧ s.resetReleases i = [] then closesDone i (s.stream i).closePending .faulted else [])
        ++ rest.1, rest.2)
    else s.restartPosts is ft

/-! ### Deliveries -/

/-- The contexts that a delivery check on the stream delivers, in their order: each ready and at the next MSN from
`rx_expected` on, up to the first MSN that has no ready context (R85). -/
abbrev DeliveryRun (s : State) (i : StreamId) (ds : List ReContext) : Prop :=
  (∀ k, ∀ h : k < ds.length, ds[k] ∈ s.re.contexts ∧ ds[k].stream = i ∧ ds[k].ready = true ∧
    ds[k].msn = (s.rxs i).rxExpected + BitVec.ofNat 8 k) ∧
  ∀ x ∈ s.re.contexts, x.stream = i → x.msn = (s.rxs i).rxExpected + BitVec.ofNat 8 ds.length → x.ready = false

/-- The state after these contexts of the stream have been delivered: their ARRIVALs stand on the release list in
this order, their outcomes in the history, the contexts are free and `rx_expected` is past them (R85, R86). -/
def State.delivered (i : StreamId) (ds : List ReContext) (s : State) : State :=
  let r := s.stream i
  let rx := s.rxs i
  let t := (s.setStream i { r with history := ds.foldl (fun h d => pushHistory h (d.msn, d.outcome)) r.history }).setRxs i
    { rx with
      rxExpected := rx.rxExpected + BitVec.ofNat 8 ds.length
      releaseList := rx.releaseList ++ ds.map (ReContext.arrival r.gen) }
  { t with re.contexts := s.re.contexts.filter fun c => !(ds.map ReContext.occupancy).contains c.occupancy }

/-! ### Taking a record -/

/-- A record read of the ring in force is outstanding as `q`, and the engine is not HALTED. -/
abbrev AwaitsRecord (s : State) (q : ReadEntry) : Prop :=
  s.recordRead = some q ∧ s.rp.taking = .reading false ∧ s.hau.engine ≠ .halted

/-- The state in which a record is processed: its read has left the tracker, `RQ_HEAD` has advanced and the
Request Processor is IDLE (R140). -/
def State.recordTaken (s : State) (q : ReadEntry) : State :=
  { s with
    hau.tracker := s.hau.tracker.filter fun r => decide (r.id ≠ q.id)
    rp.rqHead := (s.rp.rqHead + 1) % 2 ^ s.hau.rqRing.order.toNat
    rp.taking := .idle }

/-! ### Invariants -/

/-- The link is UP exactly when a lane is UP (R120, R123). -/
abbrev LinkAgrees (s : State) : Prop := s.lm.linkState = .up ↔ s.anyLaneUp = true

/-- Every queue and table that the lanes, the host port and the fences share keeps its limit (R97, R108, R109,
R70, R180, R183). -/
abbrev QueuesBounded (s : State) : Prop :=
  s.hau.tracker.length ≤ 8 ∧ s.hau.writeQueue.length ≤ 16 ∧ s.lm.noticeQueue.length ≤ 32 ∧
  (∀ l : LaneId, (s.lane l).txQueue.length ≤ 4) ∧ s.ft.length ≤ 4 ∧ s.re.contexts.length ≤ 128

/-- Every transmit list, buffer list and shared pool keeps its limit (R27, R56, R58). -/
abbrev ListsBounded (s : State) : Prop :=
  (∀ i : StreamId, (s.txs i).list.length ≤ 32 ∧ (s.rxs i).bufferList.length ≤ 16) ∧
  s.sendEntries ≤ 256 ∧ s.buffersInUse ≤ 512

/-- The reservations that stand: the Request Processor's, one for each pending OPEN, CLOSE, send entry and fence
(R1, R26, R97, R137, R160). -/
def State.reservationsHeld (s : State) : Nat :=
  (if s.rp.taking = .idle then 0 else 1) +
  (s.st.toList.map fun r => (if r.openPending.isSome then 1 else 0) + r.closePending.length).sum +
  s.sendEntries + s.ft.length

/-- Every reserved slot is held by exactly one request, an OPEN is pending exactly while its stream is OPENING,
and unconsumed and reserved slots together fit the ring (R1, R146, R157). -/
abbrev SlotsAccounted (s : State) : Prop :=
  s.cp.reserved = s.reservationsHeld ∧ s.cp.unconsumed + s.cp.reserved ≤ s.cqSize ∧
  ∀ i : StreamId, (s.stream i).openPending.isSome = decide ((s.stream i).state = .opening)

/-- The registers agree with the engine state: a halt cause is shown exactly in HALTED, FAULT_ADDRESS is 0 and
ENABLE reads RUNNING outside it, and the Request Processor is not HOLDING in STOPPED (R139, R174, R175,
R177). -/
abbrev EngineAgrees (s : State) : Prop :=
  (s.hau.haltCause = .none ↔ s.hau.engine ≠ .halted) ∧
  (s.hau.engine ≠ .halted → s.hau.faultAddress = 0 ∧
    (s.hau.enable = true ↔ s.hau.engine = .running)) ∧
  (s.rp.taking = .holding → s.hau.engine ≠ .stopped)

/-- While HALTED the write queue, the backlog, the notice queue and every lane queue are empty (R131, R171,
R185). -/
abbrev HaltedQuiet (s : State) : Prop :=
  s.hau.engine = .halted → s.hau.writeQueue = [] ∧ s.cp.backlog = [] ∧ s.lm.noticeQueue = [] ∧
    ∀ l : LaneId, (s.lane l).txQueue = []

/-- A lane is OFF exactly outside the lane mask; only an UP lane holds units; the silence timer is stopped in
OFF and SEEKING; the runs stay below their limits (R108, R114, R116, R117, R128). -/
abbrev LanesAgree (s : State) : Prop :=
  ∀ l : LaneId,
    ((s.lane l).state = .off ↔ s.rp.config.laneMask.getLsbD l.val = false) ∧
    ((s.lane l).state ≠ .up → (s.lane l).txQueue = []) ∧
    ((s.lane l).state = .off ∨ (s.lane l).state = .seeking → (s.lane l).silenceTimer = .stopped) ∧
    (s.lane l).validRun < 8 ∧ (s.lane l).badRun < 4

/-- Every context of a stream has an MSN within the stream's receive window, no two contexts of one stream have
the same MSN, only OPEN and DRAINING streams hold contexts, and occupancies are distinct (R70, R71). -/
abbrev ContextsInWindow (s : State) : Prop :=
  (∀ c ∈ s.re.contexts,
    (s.rxs c.stream).position c.msn < 8 ∧
    ((s.stream c.stream).state = .opened ∨ (s.stream c.stream).state = .draining) ∧
    c.occupancy < s.re.nextOccupancy) ∧
  s.re.contexts.Pairwise fun c d => (c.stream = d.stream → c.msn ≠ d.msn) ∧ c.occupancy ≠ d.occupancy

/-- The MSNs of a transmit list run without gap up to `tx_next` − 1 (R28, R30). -/
def TxStream.consecutive (t : TxStream) : Bool :=
  decide (t.list.map SendEntry.msn =
    (List.range t.list.length).map fun k => t.txNext - BitVec.ofNat 8 (t.list.length - k))

/-- The transmit lists keep the law of R28: MSNs without gap, entries beyond the eighth QUEUED, no list above 32
entries, entries only on OPENING, OPEN and DRAINING streams, none SENDING, AWAITING, HELD or finished on an
OPENING one; an entry is SENDING exactly when a slicer slot holds it (R27, R28, R31). -/
abbrev TransmitListsLawful (s : State) : Prop :=
  (∀ i : StreamId, (s.txs i).consecutive = true ∧ (s.txs i).list.length ≤ 32 ∧
    (∀ e ∈ (s.txs i).list.drop 8, e.state = .queued) ∧
    ((s.txs i).list = [] ∨ (s.stream i).state = .opening ∨ (s.stream i).state = .opened ∨
      (s.stream i).state = .draining) ∧
    ((s.stream i).state = .opening → ∀ e ∈ (s.txs i).list, e.state = .queued) ∧
    (∀ e ∈ (s.txs i).list, (e.state = .sending ↔ (s.slotWorkOf i e.msn).isSome = true))) ∧
  (∀ k : SlotId, ∀ w, s.slot k = some w → ((s.txs w.stream).list.map SendEntry.msn).contains w.msn = true) ∧
  (∀ k l : SlotId, ∀ w, s.slot k = some w → ∀ v, s.slot l = some v → k ≠ l →
    ¬(w.stream = v.stream ∧ w.msn = v.msn))

/-- A CLOSED stream holds no send entry, buffer or release record, a RELEASING one waits with a release list that
is not empty and holds nothing else, and a FAULTED one holds no send entry (R18, R27, R58). -/
abbrev EndedIsEmpty (s : State) : Prop :=
  ∀ i : StreamId,
    ((s.stream i).state = .closed →
      (s.txs i).list = [] ∧ (s.rxs i).bufferList = [] ∧ (s.rxs i).releaseList = []) ∧
    ((s.stream i).state = .releasing →
      (s.txs i).list = [] ∧ (s.rxs i).bufferList = [] ∧ (s.rxs i).releaseList ≠ []) ∧
    ((s.stream i).state = .faulted → (s.txs i).list = [])

/-- The pending CLOSEs of a stream by its state: one GRACEFUL in DRAINING, one or two in RELEASING, none in any
other state (R12). -/
def StreamRecord.closesLawful (r : StreamRecord) : Bool :=
  match r.state with
  | .draining => r.closePending.map Prod.snd == [CloseMode.graceful]
  | .releasing => r.closePending.length == 1 ||
      r.closePending.map Prod.snd == [CloseMode.graceful, CloseMode.immediate]
  | _ => r.closePending.isEmpty

/-- In every stream record `gen` equals `last_gen`, the pending CLOSEs follow R12, the sync timer is stopped
outside OPENING, and the outcome history holds at most 8 pairs (R3, R5, R12, R86). -/
abbrev StreamRecordsLawful (s : State) : Prop :=
  ∀ i : StreamId, (s.stream i).gen = (s.stream i).lastGen ∧ (s.stream i).closesLawful = true ∧
    ((s.stream i).syncTimer ≠ .stopped → (s.stream i).state = .opening) ∧
    (s.stream i).history.length ≤ 8

/-- An ack timer is set only on an AWAITING entry and a holdoff timer only on a HELD one; while the link is DOWN or
the engine HALTED neither runs (R38, R40, R50, R54). -/
abbrev EntryTimersLawful (s : State) : Prop :=
  ∀ i : StreamId, ∀ e ∈ (s.txs i).list,
    (e.ackTimer ≠ .stopped → e.state = .awaiting) ∧ (e.holdoffTimer ≠ .stopped → e.state = .held) ∧
    (s.lm.linkState = .down ∨ s.hau.engine = .halted →
      e.ackTimer.isRunning = false ∧ e.holdoffTimer.isRunning = false)

/-- A pending fence still awaits a retirement, and no more on a stream than its transmit list holds at most
(R97, R101). -/
abbrev FencesAwait (s : State) : Prop :=
  ∀ r ∈ s.ft, r.settled = false ∧ ∀ i : StreamId, r.remaining[i] ≤ (s.txs i).list.length

end Sys2Proof.Machine
end

