-- ==== Sys2Proof/Certificates/Slice0/Obligations.lean ====
section
/-! DEFINITION. The statements for the provers. Each docstring names the rules of the manual that the statement
formalises; what rests on a choice of the model names the entry of the assumption log. -/

open Sys2Proof Sys2Proof.Machine

/-! ### The queue -/

/-- A step takes the command at the front of the queue and executes it on the state with the rest of the queue. On
an empty queue the part idles, which is the model's own choice (assumptions 5 and 7: the manual's timers run by
time, which the model leaves out). -/
def Obligations.StepRunsFrontCommand : Prop :=
  (∀ (c : Instr) (rest : List Instr) (s : State),
    step { s with pending := c :: rest } = exec c { s with pending := rest }) ∧
  ∀ s : State, s.pending = [] → step s = .next s

/-- Every command ends in a next state, in every state: no command stops the machine. It leaves the queue alone,
and what has left the pins stays as it left (assumptions 4 and 9). -/
def Obligations.EveryCommandEnds : Prop :=
  ∀ (c : Instr) (s : State), ∃ t, exec c s = .next t ∧ t.pending = s.pending ∧
    ∃ out, t.emitted = out ++ s.emitted

/-! ### Resets and the register window -/

/-- PORT_RESET and SOFT_RESET give every block the values of its reset rule (R2, R55, R68, R96, R107, R133, R153,
R172, R179), keep the identifiers of forgotten reads (R182), and differ in the ring geometry alone. -/
def Obligations.ResetsGiveResetValues : Prop :=
  ∀ (s : State) (c : Instr), c = .portReset ∨ c = .softReset → ∃ t, exec c s = .next t ∧
    (∀ i, t.stream i = ⟨.closed, 0, 0, none, [], .closed, .stopped, 0, none, none, []⟩) ∧
    (∀ i, t.txs i = ⟨[], 0, 0, 0, 0⟩) ∧ (∀ k, t.slot k = none) ∧ t.te.slicerPointer = 63 ∧
    t.te.offerPointer = 3 ∧ t.te.readPointer = 3 ∧
    (∀ i, t.rxs i = ⟨0, [], [], 0, 0⟩) ∧ t.re.contexts = [] ∧ t.ft = [] ∧
    (∀ l, t.lane l = ⟨.off, 0, 0, .stopped, [], 0, 0⟩) ∧ t.lm.partnerEpoch = 0 ∧ t.lm.linkState = .down ∧
    t.lm.roleClash = false ∧ t.lm.noticeQueue = [] ∧ t.lm.lanePointer = 3 ∧ t.lm.linkEvent = 0 ∧
    t.rp.taking = .idle ∧ t.rp.rqHead = 0 ∧ t.rp.rqTail = 0 ∧ t.rp.config.configured = false ∧
    t.rp.config.laneMask = 0 ∧ t.cp = ⟨0, true, 0, 0, 63, []⟩ ∧ t.cqHead = 0 ∧
    t.hau.engine = .stopped ∧ t.hau.enable = false ∧ t.hau.intEnable = false ∧ t.hau.haltCause = .none ∧
    t.hau.faultAddress = 0 ∧ t.hau.tracker = [] ∧ t.hau.writeQueue = [] ∧ t.hau.interruptOwed = none ∧
    t.hau.forgotten = s.hau.forgotten ++ s.hau.tracker.map ReadEntry.id ∧ t.emitted = s.emitted ∧
    (c = .portReset → t.hau.rqRing = ⟨0, 4⟩ ∧ t.hau.cqRing = ⟨0, 4⟩) ∧
    (c = .softReset → t.hau.rqRing = s.hau.rqRing ∧ t.hau.cqRing = s.hau.cqRing)

/-- What the registers read in every state, by the layout of the register window: IDENT, CONTROL, STATUS, both ring
registers, the three indices and FAULT_ADDRESS, the 64-bit ones also by halves, and 0 from every access that is no
register access (R173 to R177, R196); what they read at power-on; and that every invariant stated below holds then. -/
def Obligations.PowerOnState : Prop :=
  (∀ s : State,
    let bit (b : Bool) : Nat := if b then 1 else 0
    let word (n : Nat) : BitVec 64 := BitVec.ofNat 64 n
    let engine : Nat := match s.hau.engine with
      | .stopped => 0
      | .running => 1
      | .halted => 2
    let cause : Nat := match s.hau.haltCause with
      | .none => 0
      | .readError => 1
      | .readTimeout => 2
    let lanes := ((List.finRange 4).map fun l => bit (decide ((s.lane l).state = .up)) * 2 ^ (8 + l.val)).sum
    let ring (r : Ring) (offset : Nat) : Prop :=
      let n := 4096 * r.base.toNat + r.order.toNat
      s.readRegister offset 8 = word n ∧ s.readRegister offset 4 = word (n % 2 ^ 32) ∧
        s.readRegister (offset + 4) 4 = word (n / 2 ^ 32)
    s.readRegister 0x00 4 = 0x5A4F2240 ∧
    s.readRegister 0x04 4 = word (bit s.hau.enable + 4 * bit s.hau.intEnable) ∧
    s.readRegister 0x08 4 = word (engine + 4 * cause + 16 * bit s.rp.config.configured +
      32 * bit (decide (s.lm.linkState = .up)) + lanes) ∧
    ring s.hau.rqRing 0x10 ∧ ring s.hau.cqRing 0x18 ∧
    s.readRegister 0x20 4 = word s.rp.rqTail ∧ s.readRegister 0x24 4 = word s.rp.rqHead ∧
    s.readRegister 0x28 4 = word (((s.cp.tail : Int) - s.cp.unconsumed) % 2 ^ s.hau.cqRing.order.toNat).toNat ∧
    s.readRegister 0x30 8 = s.hau.faultAddress ∧
    s.readRegister 0x30 4 = word (s.hau.faultAddress.toNat % 2 ^ 32) ∧
    s.readRegister 0x34 4 = word (s.hau.faultAddress.toNat / 2 ^ 32) ∧
    ∀ offset size : Nat,
      (offset, size) ∉ [(0x00, 4), (0x04, 4), (0x08, 4), (0x10, 4), (0x14, 4), (0x18, 4), (0x1C, 4), (0x20, 4),
        (0x24, 4), (0x28, 4), (0x30, 4), (0x34, 4), (0x10, 8), (0x18, 8), (0x30, 8)] →
      s.readRegister offset size = 0) ∧
  let s := State.reset
  (s.readRegister 0x00 4 = 0x5A4F2240 ∧ s.readRegister 0x04 4 = 0 ∧ s.readRegister 0x08 4 = 0 ∧
    s.readRegister 0x10 8 = 4 ∧ s.readRegister 0x18 8 = 4 ∧ s.readRegister 0x20 4 = 0 ∧
    s.readRegister 0x24 4 = 0 ∧ s.readRegister 0x28 4 = 0 ∧ s.readRegister 0x30 8 = 0) ∧
  LinkAgrees s ∧ LanesAgree s ∧ QueuesBounded s ∧ ListsBounded s ∧ SlotsAccounted s ∧ EngineAgrees s ∧
  HaltedQuiet s ∧ ContextsInWindow s ∧ TransmitListsLawful s ∧ EndedIsEmpty s ∧ StreamRecordsLawful s ∧
  EntryTimersLawful s ∧ FencesAwait s

/-- A CONTROL write with RESET 0, by whichever of the three commands: INT_ENABLE takes its value in every engine
state; ENABLE moves the engine between STOPPED and RUNNING and is ignored in HALTED; a HOLDING Request Processor
gives its reservation back when the engine stops; the interrupt condition is judged again (R139, R175, R178,
R187). -/
def Obligations.ControlWriteActs : Prop :=
  ∀ (enable intEnable : Bool) (s : State), ∃ t,
    let starts := s.hau.engine = .stopped ∧ enable = true
    let stops := s.hau.engine = .running ∧ enable = false
    let holds (u : State) := u.hau.intEnable = true ∧ (0 < u.cp.unconsumed ∨ u.hau.engine = .halted)
    exec (.intEnableWrite enable intEnable) s = .next t ∧
    exec (if enable then .enableSet intEnable else .enableClear intEnable) s = .next t ∧
    t = { s with
      hau := { s.hau with
        intEnable := intEnable
        engine := if starts then .running else if stops then .stopped else s.hau.engine
        enable := if starts then true else if stops then false else s.hau.enable
        interruptOwed := t.hau.interruptOwed }
      rp.taking := if stops ∧ s.rp.taking = .holding then .idle else s.rp.taking
      cp.reserved := if stops ∧ s.rp.taking = .holding then s.cp.reserved - 1 else s.cp.reserved } ∧
    (¬holds t → t.hau.interruptOwed = none) ∧
    (holds t ∧ holds s → t.hau.interruptOwed = s.hau.interruptOwed) ∧
    (holds t ∧ ¬holds s → t.hau.interruptOwed = some t.unwrittenRecords)

/-- A write to a ring register is accepted in STOPPED alone; in RUNNING and HALTED it is ignored. It stores the base
and an order from 4 to 12. At RQ_RING both indices become 0 and an outstanding record read is marked as one of the
old ring. At CQ_RING the new order must also hold the reserved slots; tail, CQ_HEAD and the unconsumed count become
0 and the phase 1, the reserved count and the release pointer stay, records already posted keep their addresses, and
an owed interrupt is cancelled, since nothing is unconsumed (R139, R155, R176, R187, R196). -/
def Obligations.RingWritesAct : Prop :=
  ∀ (v : BitVec 64) (s : State),
    let order := v.toNat % 16
    let valid := 4 ≤ order ∧ order ≤ 12
    (s.hau.engine = .stopped → exec (.rqRingWrite v) s = .next { s with
      hau.rqRing := ⟨v.extractLsb' 12 52, if valid then v.extractLsb' 0 4 else s.hau.rqRing.order⟩
      rp := { s.rp with
        rqHead := 0
        rqTail := 0
        taking := match s.rp.taking with
          | .reading _ => .reading true
          | .idle => .idle
          | .holding => .holding } }) ∧
    (s.hau.engine = .stopped → ∃ t, exec (.cqRingWrite v) s = .next t ∧ t.cqHead = 0 ∧ t = { s with
      hau := { s.hau with
        cqRing := ⟨v.extractLsb' 12 52,
          if valid ∧ s.cp.reserved ≤ 2 ^ order then v.extractLsb' 0 4 else s.hau.cqRing.order⟩
        interruptOwed := none }
      cp := { s.cp with tail := 0, phase := true, unconsumed := 0 } }) ∧
    (s.hau.engine ≠ .stopped → exec (.rqRingWrite v) s = .next s ∧ exec (.cqRingWrite v) s = .next s)

/-- A write to RQ_TAIL stores the value modulo the ring size, in every engine state. A write to CQ_HEAD with an advance
of at most the unconsumed count gives those slots back, and CQ_HEAD then reads the written value modulo the ring
size; while INT_ENABLE is 1 it owes an interrupt if a record is still unconsumed or the engine is HALTED, and
otherwise cancels one. A greater advance is no write at all (R135, R159, R177, R187). -/
def Obligations.IndexWritesAct : Prop :=
  ∀ (v : BitVec 32) (s : State),
    let size := 2 ^ s.hau.cqRing.order.toNat
    let advance := (v.toNat % size + (size - s.cqHead)) % size
    let left := s.cp.unconsumed - advance
    exec (.rqTailWrite v) s = .next { s with rp.rqTail := v.toNat % 2 ^ s.hau.rqRing.order.toNat } ∧
    (advance ≤ s.cp.unconsumed → ∃ t, exec (.cqHeadWrite v) s = .next t ∧ t.cqHead = v.toNat % size ∧
      t = { s with
        cp.unconsumed := left
        hau.interruptOwed :=
          if s.hau.intEnable = true ∧ (0 < left ∨ s.hau.engine = .halted) then some s.unwrittenRecords
          else none }) ∧
    (s.cp.unconsumed < advance → exec (.cqHeadWrite v) s = .next s)

/-- A write access of the register window is the write of the register at its offset: 32 bits at CONTROL, RQ_TAIL,
CQ_HEAD and each half of a ring register, 64 bits at a ring register. A half is a write of the whole register
whose other half keeps its value. Every other access, and so every write to a read-only register, is ignored
(R173, R177, R196). -/
def Obligations.RegisterWriteActs : Prop :=
  ∀ (v : BitVec 64) (s : State),
    exec (.registerWrite 0x20 4 v) s =
      .next { s with rp.rqTail := v.toNat % 2 ^ 32 % 2 ^ s.hau.rqRing.order.toNat } ∧
    exec (.registerWrite 0x28 4 v) s = exec (.cqHeadWrite (v.setWidth 32)) s ∧
    exec (.registerWrite 0x04 4 v) s =
      (if v.getLsbD 1 then exec .softReset s else exec (.intEnableWrite (v.getLsbD 0) (v.getLsbD 2)) s) ∧
    exec (.registerWrite 0x10 8 v) s = exec (.rqRingWrite v) s ∧
    exec (.registerWrite 0x18 8 v) s = exec (.cqRingWrite v) s ∧
    exec (.registerWrite 0x10 4 v) s =
      exec (.rqRingWrite (s.hau.rqRing.word.extractLsb' 32 32 ++ v.extractLsb' 0 32)) s ∧
    exec (.registerWrite 0x14 4 v) s =
      exec (.rqRingWrite (v.extractLsb' 0 32 ++ s.hau.rqRing.word.extractLsb' 0 32)) s ∧
    exec (.registerWrite 0x18 4 v) s =
      exec (.cqRingWrite (s.hau.cqRing.word.extractLsb' 32 32 ++ v.extractLsb' 0 32)) s ∧
    exec (.registerWrite 0x1C 4 v) s =
      exec (.cqRingWrite (v.extractLsb' 0 32 ++ s.hau.cqRing.word.extractLsb' 0 32)) s ∧
    ∀ offset size : Nat,
      (offset, size) ∉ [(0x04, 4), (0x10, 4), (0x14, 4), (0x18, 4), (0x1C, 4), (0x20, 4), (0x28, 4), (0x10, 8),
        (0x18, 8)] →
      exec (.registerWrite offset size v) s = .next s

/-! ### Request records -/

/-- The data of a record read arrives. With the last bytes the record is taken: RQ_HEAD advances, the Request
Processor is IDLE and the read has left the tracker (R140, R180). Bytes that leave some missing are kept and
nothing else changes, in HALTED too. A record of a ring since rewritten is discarded and its reservation returned
(R139). That the bytes of one read are kept in the order in which they come, and that none beyond its length counts,
is the model's choice (assumption 11); what becomes of a read in HALTED is its inference (assumption 12). -/
def Obligations.RecordReadCompletes : Prop :=
  ∀ (s : State) (q : ReadEntry) (data : List Byte),
    (AwaitsRecord s q → q.length ≤ (q.received ++ data).length → ∃ t,
      exec (.recordReadComplete data) s = .next t ∧
      t.rp.rqHead = (s.rp.rqHead + 1) % 2 ^ s.hau.rqRing.order.toNat ∧ t.rp.taking = .idle ∧
      t.rp.rqTail = s.rp.rqTail ∧ t.hau.tracker = s.hau.tracker.filter (fun r => decide (r.id ≠ q.id)) ∧
      t.hau.engine = s.hau.engine ∧ t.emitted = s.emitted) ∧
    (s.recordRead = some q → (q.received ++ data).length < q.length →
      exec (.recordReadComplete data) s = .next { s with
        hau.tracker := s.hau.tracker.map fun r =>
          if r.id = q.id then { q with received := q.received ++ data } else r }) ∧
    (s.recordRead = some q → s.rp.taking = .reading true → s.hau.engine ≠ .halted →
      q.length ≤ (q.received ++ data).length →
      exec (.recordReadComplete data) s = .next { s with
        hau.tracker := s.hau.tracker.filter fun r => decide (r.id ≠ q.id)
        rp.taking := .idle
        cp.reserved := s.cp.reserved - 1 })

/-- The 64 bytes of a request record are the request of their kind: the read that brings the bytes laid out by
R193 does what the kind's own command does. -/
def Obligations.RecordBytesAreRequests : Prop :=
  ∀ (s : State) (q : ReadEntry), s.recordRead = some q → q.received = [] → q.length = 64 →
    ∀ (stream mode scope clear mask role epoch limit : Byte) (tag : Tag) (a : HostAddr)
      (n ack hold sync : BitVec 16),
    let bytes (kind stream : Byte) (own : List Byte) : List Byte :=
      [kind, stream, 0, 0] ++ leBytes 4 tag.toNat ++ own ++ List.replicate (56 - own.length) 0
    exec (.recordReadComplete (bytes 0x01 0 ([mask, role, epoch, limit] ++ leBytes 2 ack.toNat ++
      leBytes 2 hold.toNat ++ leBytes 2 sync.toNat))) s =
      exec (.configure tag mask role epoch limit ack hold sync) s ∧
    exec (.recordReadComplete (bytes 0x02 stream [])) s = exec (.openStream stream tag) s ∧
    exec (.recordReadComplete (bytes 0x03 stream [mode])) s = exec (.closeStream stream tag mode) s ∧
    exec (.recordReadComplete (bytes 0x04 stream (leBytes 8 a.toNat ++ leBytes 2 n.toNat))) s =
      exec (.send stream tag a n) s ∧
    exec (.recordReadComplete (bytes 0x05 stream (leBytes 8 a.toNat ++ leBytes 2 n.toNat))) s =
      exec (.post stream tag a n) s ∧
    exec (.recordReadComplete (bytes 0x06 stream [scope])) s = exec (.fence stream tag scope) s ∧
    exec (.recordReadComplete (bytes 0x07 stream [clear])) s = exec (.queryStream stream tag clear) s ∧
    exec (.recordReadComplete (bytes 0x08 0 [clear])) s = exec (.queryLink tag clear) s

/-- The checks of a taken record, first on its 64 bytes, then on the operands of each request command. A record of an
unknown kind, with a nonzero byte or bit that its kind reserves, with a stream number above 63, or with a field out of
its range is refused BAD_REQUEST, and while the part is not configured any other record but a CONFIGURE or a
QUERY_LINK is refused NOT_CONFIGURED. Kind, stream and tag return as read, with no kind-specific contents, and nothing
else of the part changes (R142, R143, R144, R193; that a request command is the completion of the record read with
that record is assumption 3). -/
def Obligations.BadRecordsAreRefused : Prop :=
  ∀ (s : State) (q : ReadEntry), AwaitsRecord s q →
    let judged (c : Instr) (kind stream : Byte) (tag : Tag) (bad : Prop) : Prop :=
      let refused (status : Status) := Host.Outcome.next (φ := Fault) (ρ := Refusal)
        ((s.recordTaken q).withPosted [.requestDone kind stream tag status .none])
      (bad → exec c s = refused .badRequest) ∧
      (¬bad → s.rp.config.configured = false → kind ≠ 0x01 → kind ≠ 0x08 → exec c s = refused .notConfigured)
    let noStream (b : Byte) : Prop := 64 ≤ b.toNat
    let noCode (b : Byte) : Prop := b ≠ 0x01 ∧ b ≠ 0x02
    let noFlag (b : Byte) : Prop := b ≠ 0x00 ∧ b ≠ 0x01
    let noLength (n : Nat) : Prop := n = 0 ∨ 16384 < n
    let badConfigure (mask role epoch limit : Byte) (ack hold sync : Nat) : Prop :=
      mask = 0 ∨ 16 ≤ mask.toNat ∨ noCode role ∨ epoch = 0 ∨ limit = 0 ∨ 7 < limit.toNat ∨ ack < 10 ∨ hold = 0 ∨
        sync < 100
    let badFence (stream scope : Byte) : Prop :=
      noCode scope ∨ (scope = 0x01 ∧ noStream stream) ∨ (scope = 0x02 ∧ stream ≠ 0)
    (∀ data : List Byte, q.received = [] → q.length = 64 → data.length = 64 →
      let b (k : Nat) : Byte := data.getD k 0
      let half (k : Nat) : Nat := (b k).toNat + 256 * (b (k + 1)).toNat
      let rest (k : Nat) : Prop := ∃ j, k ≤ j ∧ j < 64 ∧ b j ≠ 0
      judged (.recordReadComplete data) (b 0) (b 1) (BitVec.ofNat 32 (leNat [b 4, b 5, b 6, b 7]))
        (b 2 ≠ 0 ∨ b 3 ≠ 0 ∨ (∀ k : Nat, k < 9 → k ≠ 0 → b 0 ≠ BitVec.ofNat 8 k) ∨
          (b 0 = 0x01 ∧ (b 1 ≠ 0 ∨ badConfigure (b 8) (b 9) (b 10) (b 11) (half 12) (half 14) (half 16) ∨ rest 18)) ∨
          (b 0 = 0x02 ∧ (noStream (b 1) ∨ rest 8)) ∨
          (b 0 = 0x03 ∧ (noStream (b 1) ∨ noCode (b 8) ∨ rest 9)) ∨
          (b 0 = 0x04 ∧ (noStream (b 1) ∨ noLength (half 16) ∨ rest 18)) ∨
          (b 0 = 0x05 ∧ (noStream (b 1) ∨ noLength (half 16) ∨ rest 18)) ∨
          (b 0 = 0x06 ∧ (badFence (b 1) (b 8) ∨ rest 9)) ∨
          (b 0 = 0x07 ∧ (noStream (b 1) ∨ noFlag (b 8) ∨ rest 9)) ∨
          (b 0 = 0x08 ∧ (b 1 ≠ 0 ∨ noFlag (b 8) ∨ rest 9)))) ∧
    ∀ (stream : Byte) (tag : Tag),
      (∀ (mask role epoch limit : Byte) (ack hold sync : BitVec 16),
        judged (.configure tag mask role epoch limit ack hold sync) 0x01 0 tag
          (badConfigure mask role epoch limit ack.toNat hold.toNat sync.toNat)) ∧
      judged (.openStream stream tag) 0x02 stream tag (noStream stream) ∧
      (∀ mode : Byte, judged (.closeStream stream tag mode) 0x03 stream tag (noStream stream ∨ noCode mode)) ∧
      (∀ (a : HostAddr) (n : BitVec 16),
        judged (.send stream tag a n) 0x04 stream tag (noStream stream ∨ noLength n.toNat) ∧
        judged (.post stream tag a n) 0x05 stream tag (noStream stream ∨ noLength n.toNat)) ∧
      (∀ scope : Byte, judged (.fence stream tag scope) 0x06 stream tag (badFence stream scope)) ∧
      (∀ clear : Byte, judged (.queryStream stream tag clear) 0x07 stream tag (noStream stream ∨ noFlag clear) ∧
        judged (.queryLink tag clear) 0x08 0 tag (noFlag clear))

/-- A CONFIGURE with every field in its range is refused BUSY while some stream is not CLOSED, with nothing else
changed. Taken while every stream is CLOSED (and so holds no send entry) it is applied: the configuration record takes its values, each lane changes by its membership of the old and the new
mask and by a change of role or epoch, the link state is judged once, `role_clash` is cleared by a change of role,
and SUCCESS is posted. The recorded partner epoch stays (R119, R128, R129, R148). -/
def Obligations.ConfigureIsApplied : Prop :=
  ∀ (s : State) (q : ReadEntry), AwaitsRecord s q →
    ∀ (tag : Tag) (mask : BitVec 4) (role : Role) (epoch limit : Byte) (ack hold sync : BitVec 16),
    mask ≠ 0 → epoch ≠ 0 → 1 ≤ limit.toNat ∧ limit.toNat ≤ 7 → 10 ≤ ack.toNat → 1 ≤ hold.toNat →
    100 ≤ sync.toNat →
    let old := s.rp.config
    let changed := old.role ≠ role ∨ old.localEpoch ≠ epoch
    let code : Byte := if role = .a then 0x01 else 0x02
    let takes := exec (.configure tag (mask.setWidth 8) code epoch limit ack hold sync) s
    ((∃ i, (s.stream i).state ≠ .closed) →
      takes = .next ((s.recordTaken q).withPosted [.requestDone 0x01 0 tag .busy .none])) ∧
    ((∀ i, (s.stream i).state = .closed ∧ (s.txs i).list = []) → LinkAgrees s → ∃ t, takes = .next t ∧
      t.rp.config = ⟨true, mask, role, epoch, ack.toNat, limit.toNat, hold.toNat, sync.toNat⟩ ∧
      (∀ l : LaneId, t.lane l =
        if old.laneMask.getLsbD l.val = false then
          if mask.getLsbD l.val = false then s.lane l else (s.lane l).seekingFrom
        else if mask.getLsbD l.val = false then (s.lane l).offFrom
        else if changed then (s.lane l).seekingFrom
        else s.lane l) ∧
      LinkAgrees t ∧ t.lm.partnerEpoch = s.lm.partnerEpoch ∧
      t.lm.linkEvent = (if t.lm.linkState = s.lm.linkState then s.lm.linkEvent else satInc s.lm.linkEvent) ∧
      t.lm.noticeQueue = (if t.lm.linkState = s.lm.linkState then s.lm.noticeQueue else []) ∧
      t.lm.roleClash = (if old.configured = true ∧ old.role ≠ role then false else s.lm.roleClash) ∧
      t.st = s.st ∧ t.te.tx = s.te.tx ∧ t.re = s.re ∧ t.ft = s.ft ∧ t.emitted = s.emitted ∧
      t.cp = ((s.recordTaken q).withPosted [.requestDone 0x01 0 tag .success .none]).cp ∧
      t.hau = ((s.recordTaken q).withPosted [.requestDone 0x01 0 tag .success .none]).hau)

/-- An OPEN taken on a CLOSED stream proposes the generation after `last_gen`, empties the deferral note and the
history, sets both sequences to 0, and makes the stream OPENING with its SYNC produced, counted and timed; nothing
is posted (R4, R30, R69). In any other state it is refused WRONG_STATE and the stream record does not change. -/
def Obligations.OpenIsTaken : Prop :=
  ∀ (s : State) (q : ReadEntry) (i : StreamId) (tag : Tag), AwaitsRecord s q →
    s.rp.config.configured = true →
    ((s.stream i).state = .closed → exec (.openStream (streamByte i) tag) s = .next
      (State.produceNotice (.sync i ((s.stream i).lastGen + 1))
        ((((s.recordTaken q).setTxs i { s.txs i with txNext := 0 }).setRxs i
          { s.rxs i with rxExpected := 0 }).setStream i
          { s.stream i with
            state := .opening
            gen := (s.stream i).lastGen + 1
            lastGen := (s.stream i).lastGen + 1
            openPending := some tag
            syncTimer := .running s.rp.config.syncInterval
            syncSent := 1
            deferralNote := none
            history := [] }))) ∧
    ((s.stream i).state ≠ .closed → exec (.openStream (streamByte i) tag) s =
      .next ((s.recordTaken q).withPosted [doneFor .openStream i tag .wrongState (.openDone 0)]))

/-- A CLOSE(GRACEFUL) on an OPEN stream with send entries makes it DRAINING with the CLOSE pending; a CLOSE that R12
refuses is answered WRONG_STATE with its mode and changes nothing else (R12, R13). IMMEDIATE on an OPEN or DRAINING stream fails the whole
list with CLOSED_LOCALLY, flushes and releases the buffer list (R15, R48, R49, R63, R88). GRACEFUL on an OPEN
stream with an empty list ends the drain at once (R14). A CLOSE on a FAULTED stream releases the buffer list (R17).
A CLOSE on an OPENING stream cancels the OPEN first (R16). In each case the stream is RELEASING, or CLOSED with its
pending CLOSEs finished if nothing is to be released (R18). Where one event posts several records, the interrupt is
judged at each posting, so that the later ones are not awaited: the model's choice (assumption 17). -/
def Obligations.CloseIsTaken : Prop :=
  ∀ (s : State) (q : ReadEntry) (i : StreamId) (tag : Tag), AwaitsRecord s q →
    s.rp.config.configured = true → FencesUnsettled s →
    let r := s.stream i
    let u := s.recordTaken q
    let failed := (s.txs i).list.map fun e =>
      if e.finished then e else { e with state := .failed .closedLocally }
    let pend (mode : CloseMode) := r.closePending ++ [(tag, mode)]
    (r.state = .opened → (s.txs i).list ≠ [] → exec (.closeStream (streamByte i) tag 0x01) s =
      .next (u.setStream i { r with state := .draining, closePending := pend .graceful })) ∧
    (∀ mode : CloseMode, r.state = .closed ∨ r.state = .releasing ∨ (r.state = .draining ∧ mode = .graceful) →
      exec (.closeStream (streamByte i) tag (if mode = .graceful then 0x01 else 0x02)) s =
        .next (u.withPosted [doneFor .closeStream i tag .wrongState (.closeDone mode)])) ∧
    (r.state = .opened ∨ r.state = .draining → exec (.closeStream (streamByte i) tag 0x02) s = .next
      ((u.freeSlotsOfStream i).ended i [] failed (s.flushed i .streamClosed) (pend .immediate) .closed)) ∧
    (r.state = .opened → (s.txs i).list = [] → exec (.closeStream (streamByte i) tag 0x01) s = .next
      (u.ended i [] [] (s.flushed i .streamClosed) (pend .graceful) .closed)) ∧
    ((∀ c ∈ s.re.contexts, c.stream ≠ i) → ∀ mode : CloseMode,
      let code : Byte := if mode = .graceful then 0x01 else 0x02
      (r.state = .faulted → (s.txs i).list = [] → exec (.closeStream (streamByte i) tag code) s = .next
        (u.ended i [] [] [] (pend mode) .closed)) ∧
      (∀ openTag : Tag, r.state = .opening → r.openPending = some openTag →
        exec (.closeStream (streamByte i) tag code) s = .next
          (((u.setStream i { r with openPending := none, syncTimer := .stopped }).freeSlotsOfStream i).ended i
            [doneFor .openStream i openTag .cancelled (.openDone r.syncSent)] failed [] (pend mode) .closed)))

/-- A SEND on an OPENING or OPEN stream with room in its list and the pool joins the list QUEUED with the next MSN
and nothing is posted; else the first failing check refuses it and nothing but its completion changes (R29, R30). -/
def Obligations.SendIsTaken : Prop :=
  ∀ (s : State) (q : ReadEntry) (i : StreamId) (tag : Tag) (a : HostAddr) (n : BitVec 16), AwaitsRecord s q →
    s.rp.config.configured = true → 1 ≤ n.toNat ∧ n.toNat ≤ 16384 →
    let sendable := (s.stream i).state = .opening ∨ (s.stream i).state = .opened
    let refused (status : Status) := Host.Outcome.next (φ := Fault) (ρ := Refusal)
      ((s.recordTaken q).withPosted [doneFor .send i tag status (.sendDone 0 0 0)])
    (sendable → (s.txs i).list.length < 32 → s.sendEntries < 256 →
      exec (.send (streamByte i) tag a n) s = .next ((s.recordTaken q).setTxs i
        { s.txs i with
          list := (s.txs i).list ++
            [⟨tag, a, n.toNat, (s.txs i).txNext, .queued, 0, 0, 0, .stopped, .stopped⟩]
          txNext := (s.txs i).txNext + 1 })) ∧
    (¬sendable → exec (.send (streamByte i) tag a n) s = refused .wrongState) ∧
    (sendable → 32 ≤ (s.txs i).list.length → exec (.send (streamByte i) tag a n) s = refused .listFull) ∧
    (sendable → (s.txs i).list.length < 32 → 256 ≤ s.sendEntries →
      exec (.send (streamByte i) tag a n) s = refused .poolEmpty)

/-- A POST on an OPENING, OPEN or DRAINING stream with room in its list and the table joins the tail of the buffer
list; else the first failing check refuses it. Its REQUEST_DONE is posted at once with the number of buffers listed
after the event (R59). -/
def Obligations.PostIsTaken : Prop :=
  ∀ (s : State) (q : ReadEntry) (i : StreamId) (tag : Tag) (a : HostAddr) (n : BitVec 16), AwaitsRecord s q →
    s.rp.config.configured = true → 1 ≤ n.toNat ∧ n.toNat ≤ 16384 →
    let x := (s.stream i).state
    let postable := x = .opening ∨ x = .opened ∨ x = .draining
    let listed := (s.rxs i).bufferList.length
    let refused (status : Status) := Host.Outcome.next (φ := Fault) (ρ := Refusal)
      ((s.recordTaken q).withPosted [doneFor .post i tag status (.postDone listed)])
    (postable → listed < 16 → s.buffersInUse < 512 → exec (.post (streamByte i) tag a n) s = .next
      (((s.recordTaken q).setRxs i
        { s.rxs i with bufferList := (s.rxs i).bufferList ++ [⟨tag, a, n.toNat⟩] }).withPosted
        [doneFor .post i tag .success (.postDone (listed + 1))])) ∧
    (¬postable → exec (.post (streamByte i) tag a n) s = refused .wrongState) ∧
    (postable → 16 ≤ listed → exec (.post (streamByte i) tag a n) s = refused .listFull) ∧
    (postable → listed < 16 → 512 ≤ s.buffersInUse → exec (.post (streamByte i) tag a n) s = refused .poolEmpty)

/-- A FENCE is refused FENCE_BUSY while four are pending; else it counts the transmit lists in its scope, completes
at once if they are empty, and otherwise joins the pending list (R98, R99). -/
def Obligations.FenceIsTaken : Prop :=
  ∀ (s : State) (q : ReadEntry) (tag : Tag) (scope : FenceScope), AwaitsRecord s q →
    s.rp.config.configured = true →
    let count (j : StreamId) : Nat := if scope = .all ∨ scope = .one j then (s.txs j).list.length else 0
    let counts : Vector Nat 64 := Vector.ofFn count
    let stream : Byte := match scope with
      | .one i => streamByte i
      | .all => 0
    let code : Byte := match scope with
      | .one _ => 0x01
      | .all => 0x02
    let posts (status : Status) := (s.recordTaken q).withPosted
      [.requestDone 0x06 stream tag status (.fenceDone scope 0 0)]
    (4 ≤ s.ft.length → exec (.fence stream tag code) s = .next (posts .fenceBusy)) ∧
    (s.ft.length < 4 → (∀ j, count j = 0) → exec (.fence stream tag code) s = .next (posts .success)) ∧
    (s.ft.length < 4 → (∃ j, count j ≠ 0) → exec (.fence stream tag code) s = .next
      { s.recordTaken q with ft := s.ft ++ [⟨tag, scope, counts, 0, counts.toList.sum⟩] })

/-- QUERY_STREAM and QUERY_LINK answer with the values as they stand and, with the clear flag, then zero the
counters they report; QUERY_LINK needs no configuration (R53, R66, R94, R130, R144, R149 to R151). -/
def Obligations.QueriesAnswer : Prop :=
  ∀ (s : State) (q : ReadEntry) (i : StreamId) (tag : Tag) (clear : Bool), AwaitsRecord s q →
    let flag : Byte := if clear then 0x01 else 0x00
    let tx := s.txs i
    let rx := s.rxs i
    let u := (s.recordTaken q).withPosted [doneFor .queryStream i tag .success (.streamDone
      ⟨(s.stream i).state, (s.stream i).gen, tx.txNext, ((tx.list.head?).map SendEntry.msn).getD tx.txNext,
        tx.list.length, rx.rxExpected, (s.re.contexts.filter fun c => decide (c.stream = i)).length,
        rx.bufferList.length, tx.slicesSent, tx.retransmissions, tx.defersReceived, rx.defersSent,
        rx.straysDropped⟩)]
    let v := (s.recordTaken q).withPosted [.requestDone 0x08 0 tag .success (.linkDone
      ⟨s.lm.lanes.map fun l => ⟨l.state, l.badUnits, l.retrains⟩, s.lm.partnerEpoch, s.lm.linkState,
        s.lm.roleClash⟩)]
    (s.rp.config.configured = true → exec (.queryStream (streamByte i) tag flag) s = .next
      (if clear then
        (u.setTxs i { tx with slicesSent := 0, retransmissions := 0, defersReceived := 0 }).setRxs i
          { rx with defersSent := 0, straysDropped := 0 }
      else u)) ∧
    exec (.queryLink tag flag) s = .next
      (if clear then { v with lm.lanes := s.lm.lanes.map fun l => { l with badUnits := 0, retrains := 0 } }
      else v)

/-! ### Host reads -/

/-- The Request Processor's wish, granted when a slot is free and no claim of a higher rank stands, reserves a slot.
With room in the tracker it issues the read of the 64 bytes at RQ_HEAD under an identifier that no outstanding and
no forgotten read has, and is READING; with the tracker full it is HOLDING, and issues the read once there is room
(R136 to R138, R160, R161, R180, R182). That an address past 2^64 wraps to 0 is the model's choice (assumption 22). -/
def Obligations.RequestReadIsIssued : Prop :=
  ∀ (s : State), s.hau.engine = .running →
    let reads (u : State) (id : Nat) : State := { u with
      hau.tracker := s.hau.tracker ++ [⟨id, .requestProcessor,
        s.hau.rqRing.baseAddress + BitVec.ofNat 64 (64 * s.rp.rqHead), 64, [], .running 50000⟩]
      rp.taking := .reading false
      emitted := .hostRead id (s.hau.rqRing.baseAddress + BitVec.ofNat 64 (64 * s.rp.rqHead)) 64 :: s.emitted }
    let fresh (id : Nat) : Prop := id ∉ s.hau.tracker.map ReadEntry.id ∧ id ∉ s.hau.forgotten
    let reserved : State := { s with cp.reserved := s.cp.reserved + 1 }
    (s.rp.taking = .idle → s.rp.rqTail ≠ s.rp.rqHead → s.lm.linkEvent = 0 →
      (∀ i, (s.stream i).event = none ∧ (s.rxs i).releaseList = []) →
      s.cp.unconsumed + s.cp.reserved < 2 ^ s.hau.cqRing.order.toNat →
      (s.hau.tracker.length < 8 → ∃ id, fresh id ∧ exec .reservationGrant s = .next (reads reserved id)) ∧
      (8 ≤ s.hau.tracker.length → exec .reservationGrant s = .next { reserved with rp.taking := .holding })) ∧
    (s.rp.taking = .holding → s.hau.tracker.length < 8 →
      ∃ id, fresh id ∧ exec .recordReadIssue s = .next (reads s id))

/-- A slicer slot with a free place and a slice left to read issues the read of that slice, the first such slot in
turn after the one that issued last, while the tracker has room and the Request Processor does not wait for it
(R34, R180). That an address past 2^64 wraps to 0 is the model's choice (assumption 22). -/
def Obligations.SliceReadIsIssued : Prop :=
  ∀ (s : State) (k : SlotId) (w : SlotWork) (e : SendEntry), s.hau.engine ≠ .halted → s.rp.taking ≠ .holding →
    s.hau.tracker.length < 8 → s.slot k = some w → (s.txs w.stream).locate w.msn = some e →
    FirstInTurn s.te.readPointer k (fun j => s.wantsRead j = true) →
    let a := e.address + BitVec.ofNat 64 (256 * w.nextRead)
    let n := min 256 (e.length - 256 * w.nextRead)
    ∃ id, id ∉ s.hau.tracker.map ReadEntry.id ∧ id ∉ s.hau.forgotten ∧
      exec .sliceReadIssue s = .next { s with
        hau.tracker := s.hau.tracker ++ [⟨id, .slicer k w.occupation w.nextRead, a, n, [], .running 50000⟩]
        te.slots := s.te.slots.set k (some
          (if w.placeA = .free then
            { w with placeA := .waiting w.nextRead, nextRead := w.nextRead + 1 }
          else { w with placeB := .waiting w.nextRead, nextRead := w.nextRead + 1 }))
        te.readPointer := k
        emitted := .hostRead id a n :: s.emitted }

/-- The last bytes of a slice read take its entry out of the tracker. They fill the place that waited for them if
the slot still holds the occupation that issued the read, and are discarded if it does not (R31, R35, R180). That the
bytes of one read are kept in the order in which they come, and that none beyond its length counts, is the model's
choice (assumption 11). -/
def Obligations.SliceReadReturns : Prop :=
  ∀ (s : State) (r : ReadEntry) (k : SlotId) (occupation index : Nat) (data : List Byte),
    s.readOf r.id = some r → r.owner = .slicer k occupation index → s.hau.engine ≠ .halted →
    let all := r.received ++ data
    let gone : State := { s with hau.tracker := s.hau.tracker.filter fun q => decide (q.id ≠ r.id) }
    let fill (p : Place) : Place := if p = .waiting index then .ready index (all.take r.length) else p
    (r.length ≤ all.length → ∀ w, s.slot k = some w → w.occupation = occupation →
      exec (.sliceReadReturn r.id data) s = .next
        (gone.setSlot k (some { w with placeA := fill w.placeA, placeB := fill w.placeB }))) ∧
    (r.length ≤ all.length → (∀ w, s.slot k = some w → w.occupation ≠ occupation) →
      exec (.sliceReadReturn r.id data) s = .next gone) ∧
    (all.length < r.length → exec (.sliceReadReturn r.id data) s = .next { s with
      hau.tracker := s.hau.tracker.map fun q => if q.id = r.id then { r with received := all } else q })

/-- A read that fails by an error, or by its running timer, halts the engine: cause and address are recorded, write
queue, backlog, notice queue and lane queues are emptied, the timers of reads, openings and lanes stop and those of
send entries are suspended, and an interrupt that is owed, or that the halt makes owed, awaits nothing. Only the
entry of a read that failed with an error leaves the tracker (R25, R54, R131, R141, R171, R181, R185, R187, R188;
what becomes of the tracker's entries and of a stopped timer is assumptions 12 and 13). -/
def Obligations.FailedReadHalts : Prop :=
  ∀ (s : State) (r : ReadEntry), s.readOf r.id = some r → s.hau.engine ≠ .halted →
    let stopped (x : Timer) : Timer := if x.isRunning then .stopped else x
    let halted (cause : HaltCause) (tracker : List ReadEntry) : State := { s with
      hau := { s.hau with
        engine := .halted
        haltCause := cause
        faultAddress := r.address
        writeQueue := []
        tracker := tracker.map fun x => { x with timer := stopped x.timer }
        interruptOwed :=
          if s.hau.intEnable then
            if 0 < s.cp.unconsumed then s.hau.interruptOwed.map fun _ => 0 else some 0
          else none }
      st := s.st.map fun x => { x with syncTimer := stopped x.syncTimer }
      te.tx := s.te.tx.map fun x => { x with list := x.list.map SendEntry.suspendTimers }
      lm.noticeQueue := []
      lm.lanes := s.lm.lanes.map fun x => { x with txQueue := [], silenceTimer := stopped x.silenceTimer }
      cp.backlog := [] }
    exec (.readError r.id) s =
      .next (halted .readError (s.hau.tracker.filter fun x => decide (x.id ≠ r.id))) ∧
    (r.timer.isRunning = true → exec (.readTimeout r.id) s = .next (halted .readTimeout s.hau.tracker))

/-- Whatever returns for a forgotten read, and the end of its 50 ms, only set its identifier free (R182). That one
return stands for all that the read returns, in however many parts, is the model's choice (assumption 23). -/
def Obligations.ForgottenReadsAreDiscarded : Prop :=
  ∀ (id : Nat) (s : State),
    let freed : State := { s with hau.forgotten := s.hau.forgotten.filter fun n => decide (n ≠ id) }
    exec (.forgottenReadReturn id) s = .next freed ∧ exec (.forgottenReadExpiry id) s = .next freed

/-! ### The Transmit Engine -/

/-- While the link is UP, a free slicer slot takes the oldest QUEUED entry of the send window of the first OPEN or
DRAINING stream after the slicer pointer that has one: the entry is SENDING, the slot starts at slice 0 under the
entry's attempt, and the pointer names the stream (R32). That the lowest-numbered free slot takes it is the model's
choice (assumption 18). -/
def Obligations.SlotTakesEntry : Prop :=
  ∀ (s : State) (k : SlotId) (i : StreamId) (n : Nat) (e : SendEntry), s.lm.linkState = .up →
    s.hau.engine ≠ .halted → s.slot k = none → (∀ j : SlotId, j < k → s.slot j ≠ none) →
    (s.txs i).consecutive = true → (s.txs i).list.length ≤ 32 → n < 8 → (s.txs i).list[n]? = some e →
    e.state = .queued → (∀ m < n, ∀ d, (s.txs i).list[m]? = some d → d.state ≠ .queued) →
    FirstInTurn s.te.slicerPointer i (fun j =>
      ((s.stream j).state = .opened ∨ (s.stream j).state = .draining) ∧
        ∃ d ∈ (s.txs j).list.take 8, d.state = .queued) →
    exec .slicerSlotFill s = .next { s.setTxs i { s.txs i with
        list := (s.txs i).list.set n { e with state := .sending } } with
      te.slots := s.te.slots.set k (some ⟨i, e.msn, e.attempt, s.te.nextOccupation, 0, 0, .free, .free⟩)
      te.slicerPointer := i
      te.nextOccupation := s.te.nextOccupation + 1 }

/-- A placement goes to the first UP lane with room after the lane pointer, which then names that lane. The head
notice goes first. Without a notice, the first slot after the one last accepted that has a ready slice hands it
over: the slice is counted, and the last slice makes the entry AWAITING with a full ack timer and frees the slot
(R33, R36, R37, R52, R126). -/
def Obligations.UnitIsPlaced : Prop :=
  ∀ (s : State) (l : LaneId), s.hau.engine ≠ .halted →
    FirstInTurn s.lm.lanePointer l (fun j => (s.lane j).state = .up ∧ (s.lane j).txQueue.length < 4) →
    let placed (u : State) (x : LinkUnit) : State :=
      { u.setLane l { s.lane l with txQueue := (s.lane l).txQueue ++ [x] } with lm.lanePointer := l }
    (∀ (n : Notice) (rest : List Notice), s.lm.noticeQueue = n :: rest →
      exec .unitPlacement s = .next { placed s (.notice n) with lm.noticeQueue := rest }) ∧
    (∀ (k : SlotId) (w : SlotWork) (e : SendEntry) (data : List Byte), s.lm.noticeQueue = [] →
      FirstInTurn s.te.offerPointer k (fun j => s.hasReadySlice j = true) → s.slot k = some w →
      (s.txs w.stream).locate w.msn = some e → w.readyData = some data →
      let last := decide (w.nextHand + 1 = (e.length + 255) / 256)
      let x : SliceUnit := ⟨w.stream, (s.stream w.stream).gen, w.msn, w.attempt, BitVec.ofNat 8 w.nextHand, last,
        data⟩
      let t := s.txs w.stream
      let free (p : Place) : Place := if p = .ready w.nextHand data then .free else p
      let u := placed s (.slice x)
      exec .unitPlacement s = .next
        (if last then
          { u.setTxs w.stream { t with
              slicesSent := satInc t.slicesSent
              list := t.list.set (t.position w.msn)
                { e with state := .awaiting, ackTimer := .running s.rp.config.ackTimeout } } with
            te.slots := s.te.slots.set k none
            te.offerPointer := k }
        else
          { u.setTxs w.stream { t with slicesSent := satInc t.slicesSent } with
            te.slots := s.te.slots.set k (some { w with
              placeA := free w.placeA
              placeB := free w.placeB
              nextHand := w.nextHand + 1 })
            te.offerPointer := k }))

/-- An ACK under the stream's generation makes an unfinished entry of the send window ACKED, and a REJECT(TOO_LONG)
makes it FAILED(REMOTE_TOO_LONG): its slot is freed, its timers are cancelled, and every finished entry at the head
then retires in MSN order, with the fences it completes. Where this empties the list of a DRAINING stream, the drain
ends in the same event: the receive side is flushed, the buffer list released, and the stream is RELEASING or, with
nothing to release, CLOSED. For an entry already ACKED or FAILED both notices are ignored: they change nothing but
the lane's own silence and error counts (R14, R18, R41, R42, R44, R46, R47, R100, R101). Where one event posts several
records, the interrupt is judged at each posting, which is the model's choice (assumption 17). -/
def Obligations.AnsweredEntrySettles : Prop :=
  ∀ (s : State) (l : LaneId) (i : StreamId) (m : Msn) (e : SendEntry), HearsUp s l →
    (s.stream i).state = .opened ∨ (s.stream i).state = .draining → FencesUnsettled s →
    let t := s.txs i
    t.position m < 8 → t.locate m = some e →
    let freed : State := { s.heard l with
      te.slots := s.te.slots.map fun o => o.bind fun w => if w.stream = i ∧ w.msn = e.msn then none else some w }
    let settled (x : EntryState) := t.list.set (t.position m)
      { e with state := x, ackTimer := .stopped, holdoffTimer := .stopped }
    let after (x : EntryState) : State :=
      if (s.stream i).state = .draining ∧ (settled x).dropWhile SendEntry.finished = [] then
        freed.ended i [] (settled x) (s.flushed i .streamClosed) (s.stream i).closePending .closed
      else
        (freed.setTxs i { t with list := (settled x).dropWhile SendEntry.finished }).withRetired i
          ((settled x).takeWhile SendEntry.finished)
    let answers (x y : State) : Prop :=
      exec (.ackReceived l i (s.stream i).gen m) s = .next x ∧
        exec (.rejectTooLongReceived l i (s.stream i).gen m) s = .next y
    (e.finished = false → answers (after .acked) (after (.failed .remoteTooLong))) ∧
    (e.finished = true → answers (s.heard l) (s.heard l))

/-- A DEFER of the current attempt of a SENDING or AWAITING entry of the send window holds it: its slot is freed,
its holdoff timer starts in place of its ack timer, and both defer counts rise. A DEFER of another attempt, or for an
entry in any other state, changes nothing but the lane's own silence and error counts (R40, R41, R43). -/
def Obligations.DeferHoldsEntry : Prop :=
  ∀ (s : State) (l : LaneId) (i : StreamId) (m : Msn) (a : Attempt) (reason : DeferReason) (e : SendEntry),
    HearsUp s l → (s.stream i).state = .opened ∨ (s.stream i).state = .draining →
    let t := s.txs i
    t.position m < 8 → t.locate m = some e →
    let transmits := e.state = .sending ∨ e.state = .awaiting
    let current : Attempt := if e.state = .sending then ((s.slotWorkOf i e.msn).map SlotWork.attempt).getD e.attempt
      else e.attempt
    (transmits → a = current → exec (.deferReceived l i (s.stream i).gen m a reason) s = .next
      { (s.heard l).setTxs i { t with
          list := t.list.set (t.position m)
            { e with
              state := .held
              ackTimer := .stopped
              holdoffTimer := .running s.rp.config.deferHoldoff
              defers := satInc e.defers }
          defersReceived := satInc t.defersReceived } with
        te.slots := s.te.slots.map fun o =>
          o.bind fun w => if w.stream = i ∧ w.msn = e.msn then none else some w }) ∧
    (¬transmits ∨ a ≠ current → exec (.deferReceived l i (s.stream i).gen m a reason) s = .next (s.heard l))

/-- A REJECT(NOT_OPEN) under the generation of an OPEN stream faults it, and one for a DRAINING stream ends its close
as faulted: the entry that the REJECT names, if it names an unfinished one of the send window, completes
REMOTE_CLOSED, the other unfinished ones STREAM_FAULTED, finished ones keep their outcome, and the contexts are
flushed with STREAM_FAULTED (R19, R20, R23, R45, R48, R49). Where one event posts several records, the interrupt is
judged at each posting, which is the model's choice (assumption 17). -/
def Obligations.RejectNotOpenFaults : Prop :=
  ∀ (s : State) (l : LaneId) (i : StreamId) (m : Msn), HearsUp s l → FencesUnsettled s →
    (s.txs i).consecutive = true → (s.txs i).list.length ≤ 32 →
    let named (e : SendEntry) := e.msn = m ∧ (s.txs i).position m < 8
    let failed := (s.txs i).list.map fun e =>
      if e.finished then e
      else { e with state := .failed (if named e then .remoteClosed else .streamFaulted) }
    ((s.stream i).state = .opened → exec (.rejectNotOpenReceived l i (s.stream i).gen m) s =
      .next ((s.heard l).faultedBy i failed .remoteClosed .streamFaulted)) ∧
    ((s.stream i).state = .draining → exec (.rejectNotOpenReceived l i (s.stream i).gen m) s =
      .next ((s.heard l).drainFaulted i failed))

/-- A notice for a stream that is neither OPEN nor DRAINING, or under another generation, changes nothing but the
lane's own silence and error counts. So does an ACK, a DEFER or a REJECT(TOO_LONG) whose MSN locates no entry among
the first eight of the list. While the engine is HALTED no notice changes anything (R41, R131). -/
def Obligations.StrayNoticesAreIgnored : Prop :=
  ∀ (s : State) (l : LaneId) (i : StreamId) (g : Gen) (m : Msn) (a : Attempt) (reason : DeferReason),
    let answered (t : State) : Prop :=
      exec (.ackReceived l i g m) s = .next t ∧ exec (.deferReceived l i g m a reason) s = .next t ∧
        exec (.rejectTooLongReceived l i g m) s = .next t
    (HearsUp s l → ¬((s.stream i).state = .opened ∨ (s.stream i).state = .draining) ∨ g ≠ (s.stream i).gen →
      answered (s.heard l) ∧ exec (.rejectNotOpenReceived l i g m) s = .next (s.heard l)) ∧
    (HearsUp s l → 8 ≤ (s.txs i).position m ∨ (s.txs i).locate m = none → answered (s.heard l)) ∧
    (s.hau.engine = .halted → answered s ∧ exec (.rejectNotOpenReceived l i g m) s = .next s)

/-- The ack timer of an AWAITING entry expires: below the retry limit the entry is QUEUED again with one more retry
and the next attempt, and the retransmission is counted; at the limit the stream faults with NO_RESPONSE, which
names the entry (R19, R20, R38, R39, R48). The holdoff timer of a HELD entry expires: the entry is QUEUED with the next
attempt, and no retry is counted (R40). Where one event posts several records, the interrupt is judged at each
posting, which is the model's choice (assumption 17). -/
def Obligations.EntryTimersExpire : Prop :=
  ∀ (s : State) (i : StreamId) (m : Msn) (e : SendEntry) (left : Nat), s.hau.engine ≠ .halted →
    let t := s.txs i
    t.locate m = some e →
    (e.state = .held → e.holdoffTimer = .running left → exec (.holdoffTimerExpiry i m) s = .next (s.setTxs i
      { t with
        list := t.list.set (t.position m)
          { e with state := .queued, attempt := e.attempt + 1, holdoffTimer := .stopped } })) ∧
    (e.state = .awaiting → e.ackTimer = .running left →
      (e.retries + 1 ≠ s.rp.config.retryLimit → exec (.ackTimerExpiry i m) s = .next (s.setTxs i
        { t with
          list := t.list.set (t.position m)
            { e with
              state := .queued
              attempt := e.attempt + 1
              retries := e.retries + 1
              ackTimer := .stopped }
          retransmissions := satInc t.retransmissions })) ∧
      (e.retries + 1 = s.rp.config.retryLimit → FencesUnsettled s →
        let failed := (t.list.set (t.position m) { e with retries := e.retries + 1 }).map fun d =>
          if d.finished then d
          else { d with state := .failed (if d.msn = e.msn then .noResponse else .streamFaulted) }
        ((s.stream i).state = .opened → exec (.ackTimerExpiry i m) s =
          .next (s.faultedBy i failed .noResponse .streamFaulted)) ∧
        ((s.stream i).state = .draining → exec (.ackTimerExpiry i m) s = .next (s.drainFaulted i failed))))

/-! ### The Receive Engine -/

/-- A slice of the stream's generation and window that fits its ASSEMBLING context and finds room in the write queue
is written to its place in the bound buffer and noted; the context is LANDING exactly when every index up to the
last one is held. A first slice of a new message takes the head buffer and a free context, and is then handled as a
slice of that context (R60, R72 to R77, R79 to R81). That an address past 2^64 wraps to 0 is the model's choice
(assumption 22). -/
def Obligations.SliceMerges : Prop :=
  ∀ (s : State) (l : LaneId) (u : SliceUnit), HearsUp s l →
    (s.stream u.stream).state = .opened ∨ (s.stream u.stream).state = .draining →
    u.gen = (s.stream u.stream).gen → u.index.toNat < 64 →
    (if u.last then 1 ≤ u.payload.length ∧ u.payload.length ≤ 256 else u.payload.length = 256) →
    (u.msn - (s.rxs u.stream).rxExpected).toNat < 8 →
    let arrives := exec (.sliceReceived l u.stream u.gen u.msn u.attempt u.index u.last u.payload)
    (∀ c : ReContext, s.contextFor u.stream u.msn = some c → s.hau.writeQueue.length < 16 →
      c.state = .assembling → c.received.getLsbD u.index.toNat = false →
      256 * u.index.toNat + u.payload.length ≤ c.buffer.capacity →
      (u.last = true → (∀ k < 64, u.index.toNat < k → c.received.getLsbD k = false) ∧
        ∀ j n, c.lastSlice = some (j, n) → j = u.index.toNat) →
      (u.last = false → ∀ j n, c.lastSlice = some (j, n) → u.index.toNat ≤ j) →
      ∃ d : ReContext, d.stream = c.stream ∧ d.msn = c.msn ∧ d.buffer = c.buffer ∧ d.occupancy = c.occupancy ∧
        d.received = c.received ||| 1#64 <<< u.index.toNat ∧ d.writesOutstanding = c.writesOutstanding + 1 ∧
        d.lastSlice = (if u.last then some (u.index.toNat, u.payload.length) else c.lastSlice) ∧
        (d.state = .landing ∨ d.state = .assembling) ∧
        (d.state = .landing ↔ ∃ j n, d.lastSlice = some (j, n) ∧ ∀ k ≤ j, d.received.getLsbD k = true) ∧
        arrives s = .next { s.heard l with
          re.contexts := s.re.contexts.map fun x => if x.occupancy = c.occupancy then d else x
          hau.writeQueue := s.hau.writeQueue ++ [.data c.occupancy
            (c.buffer.address + BitVec.ofNat 64 (256 * u.index.toNat)) u.payload] }) ∧
    (∀ (b : Buffer) (rest : List Buffer), s.contextFor u.stream u.msn = none →
      (s.rxs u.stream).bufferList = b :: rest → s.re.contexts.length < 128 →
      arrives s = arrives { s.setRxs u.stream { s.rxs u.stream with bufferList := rest } with
        re.contexts := s.re.contexts ++ [⟨u.stream, u.msn, .assembling, b, 0, none, 0, s.re.nextOccupancy⟩]
        re.nextOccupancy := s.re.nextOccupancy + 1 })

/-- A slice of a new message that finds no buffer, or a buffer but no free context, is dropped. It draws one DEFER for
its MSN and attempt, which is noted and counted; while the note holds that pair nothing more is produced (R77,
R78). -/
def Obligations.SliceIsDeferred : Prop :=
  ∀ (s : State) (l : LaneId) (u : SliceUnit), HearsUp s l →
    (s.stream u.stream).state = .opened ∨ (s.stream u.stream).state = .draining →
    u.gen = (s.stream u.stream).gen → u.index.toNat < 64 →
    (if u.last then 1 ≤ u.payload.length ∧ u.payload.length ≤ 256 else u.payload.length = 256) →
    (u.msn - (s.rxs u.stream).rxExpected).toNat < 8 → s.contextFor u.stream u.msn = none →
    (s.rxs u.stream).bufferList = [] ∨ 128 ≤ s.re.contexts.length →
    let reason : DeferReason := if (s.rxs u.stream).bufferList = [] then .noBuffer else .noContext
    exec (.sliceReceived l u.stream u.gen u.msn u.attempt u.index u.last u.payload) s = .next
      (if (s.stream u.stream).deferralNote = some (u.msn, u.attempt) then s.heard l
      else State.produceNotice (.defer u.stream u.gen u.msn u.attempt reason)
        (((s.heard l).setStream u.stream
          { s.stream u.stream with deferralNote := some (u.msn, u.attempt) }).setRxs u.stream
          { s.rxs u.stream with defersSent := satInc (s.rxs u.stream).defersSent }))

/-- Slices that are not merged: one of impossible format, one of another generation or beyond the window is a
counted stray; on a CLOSED, RELEASING or FAULTED stream REJECT(NOT_OPEN) answers under the slice's own generation;
an OPENING stream drops it; behind the window the recorded outcome is sent again or the slice is a stray; a LANDING
context drops it, while a COMPLETE and an OVERSIZE one answer again; and an ASSEMBLING one drops a duplicate and a
slice that meets a full write queue, counts one that disagrees with the message's end as a stray, and becomes
OVERSIZE with a REJECT(TOO_LONG) at one that does not fit, which starts the delivery check unless written data is
still outstanding (R72 to R76, R79 to R81, R83, R85). -/
def Obligations.SliceIsAnsweredOrDropped : Prop :=
  ∀ (s : State) (l : LaneId) (u : SliceUnit), HearsUp s l →
    let r := s.stream u.stream
    let rx := s.rxs u.stream
    let d := (u.msn - rx.rxExpected).toNat
    let good := u.index.toNat < 64 ∧
      (if u.last then 1 ≤ u.payload.length ∧ u.payload.length ≤ 256 else u.payload.length = 256)
    let taken := good ∧ (r.state = .opened ∨ r.state = .draining)
    let arrives := exec (.sliceReceived l u.stream u.gen u.msn u.attempt u.index u.last u.payload) s
    let stray := (s.heard l).setRxs u.stream { rx with straysDropped := satInc rx.straysDropped }
    let answer (n : Notice) : State := (s.heard l).produceNotice n
    let told := (r.history.find? fun p => decide (p.1 = u.msn)).map Prod.snd
    (¬good → arrives = .next stray) ∧
    (good → r.state = .closed ∨ r.state = .releasing ∨ r.state = .faulted →
      arrives = .next (answer (.reject u.stream u.gen u.msn .notOpen))) ∧
    (good → r.state = .opening → arrives = .next (s.heard l)) ∧
    (taken → u.gen ≠ r.gen → arrives = .next stray) ∧
    (taken → u.gen = r.gen → 8 ≤ d → d < 248 → arrives = .next stray) ∧
    (taken → u.gen = r.gen → 248 ≤ d → told = none → arrives = .next stray) ∧
    (taken → u.gen = r.gen → 248 ≤ d → told = some .ack →
      arrives = .next (answer (.ack u.stream u.gen u.msn))) ∧
    (taken → u.gen = r.gen → 248 ≤ d → told = some .tooLong →
      arrives = .next (answer (.reject u.stream u.gen u.msn .tooLong))) ∧
    ∀ c, taken → u.gen = r.gen → d < 8 → s.contextFor u.stream u.msn = some c →
      (c.state = .landing → arrives = .next (s.heard l)) ∧
      (c.state = .complete → arrives = .next (answer (.ack u.stream u.gen u.msn))) ∧
      (c.state = .oversize → arrives = .next (answer (.reject u.stream u.gen u.msn .tooLong))) ∧
      (c.state = .assembling →
        let k := u.index.toNat
        let held := c.received.getLsbD k = true
        let disagrees := (u.last = true ∧ ∃ j < 64, k < j ∧ c.received.getLsbD j = true) ∨
          (∃ j n, c.lastSlice = some (j, n) ∧ ((u.last = true ∧ j ≠ k) ∨ (u.last = false ∧ j < k)))
        let fits := 256 * k + u.payload.length ≤ c.buffer.capacity
        (held → arrives = .next (s.heard l)) ∧
        (¬held → disagrees → arrives = .next stray) ∧
        (¬held → ¬disagrees → ¬fits → ContextsInWindow s →
          let v : State := { s.heard l with
            re.contexts := s.re.contexts.map fun x =>
              if x.occupancy = c.occupancy then { c with state := .oversize } else x }
          let reject : Notice := .reject u.stream u.gen u.msn .tooLong
          (c.writesOutstanding ≠ 0 → arrives = .next (v.produceNotice reject)) ∧
          (c.writesOutstanding = 0 → ∃ ds, DeliveryRun v u.stream ds ∧
            arrives = .next ((v.delivered u.stream ds).produceNotice reject))) ∧
        (¬held → ¬disagrees → fits → 16 ≤ s.hau.writeQueue.length → arrives = .next (s.heard l)))

/-- The data write at the head of the write queue departs. If its occupancy has ended, no context changes. If it was
the last one of a LANDING context, the message is COMPLETE and ACKed; then, as after the last one of an OVERSIZE
context, the contexts that are ready from `rx_expected` on are delivered in MSN order (R82, R83, R85, R86, R184). -/
def Obligations.DataWriteDeparts : Prop :=
  ∀ (s : State) (occupancy : Nat) (a : HostAddr) (payload : List Byte) (rest : List HostWrite),
    s.hau.writeQueue = .data occupancy a payload :: rest →
    let gone : State := { s with hau.writeQueue := rest, emitted := .hostWrite a payload :: s.emitted }
    ((∀ c ∈ s.re.contexts, c.occupancy ≠ occupancy) → exec .dataWriteDeparts s = .next gone) ∧
    (∀ c : ReContext, s.contextOf occupancy = some c → ContextsInWindow s →
      let i := c.stream
      let kept (x : ReContext) : State := { gone with
        re.contexts := s.re.contexts.map fun y => if y.occupancy = occupancy then x else y }
      let complete := kept { c with state := .complete, writesOutstanding := 0 }
      let last := kept { c with writesOutstanding := 0 }
      (1 < c.writesOutstanding → exec .dataWriteDeparts s =
        .next (kept { c with writesOutstanding := c.writesOutstanding - 1 })) ∧
      (c.writesOutstanding = 1 → c.state = .landing → ∃ ds, DeliveryRun complete i ds ∧
        exec .dataWriteDeparts s =
          .next ((complete.delivered i ds).produceNotice (.ack i (s.stream i).gen c.msn))) ∧
      (c.writesOutstanding = 1 → c.state = .oversize → ∃ ds, DeliveryRun last i ds ∧
        exec .dataWriteDeparts s = .next (last.delivered i ds)) ∧
      (c.writesOutstanding = 1 → c.state = .assembling → exec .dataWriteDeparts s = .next last))

/-! ### The Stream Table -/

/-- A SYNC on an OPENING stream: an equal proposal is answered and the stream stays OPENING; of two that differ, role
B adopts the partner's, answers it and is OPEN with its OPEN finished SUCCESS, and role A repeats its own at once
and restarts its timer. At an expiry of the sync timer the stream repeats its proposal in the same way (R5, R6,
R8). -/
def Obligations.OpeningHandshakes : Prop :=
  ∀ (s : State) (l : LaneId) (i : StreamId) (g : Gen), (s.stream i).state = .opening →
    let r := s.stream i
    let repeats (u : State) : State := (u.setStream i { r with
      syncSent := satInc r.syncSent
      syncTimer := .running s.rp.config.syncInterval }).produceNotice (.sync i r.gen)
    (HearsUp s l → g = r.gen →
      exec (.syncReceived l i g) s = .next ((s.heard l).produceNotice (.syncAck i g))) ∧
    (∀ tag, HearsUp s l → g ≠ r.gen → s.rp.config.role = .b → r.openPending = some tag →
      exec (.syncReceived l i g) s = .next
        ((((s.heard l).produceNotice (.syncAck i g)).setStream i
          { r with state := .opened, gen := g, lastGen := g, syncTimer := .stopped, openPending := none }).withPosted
          [doneFor .openStream i tag .success (.openDone r.syncSent)])) ∧
    (HearsUp s l → g ≠ r.gen → s.rp.config.role = .a →
      exec (.syncReceived l i g) s = .next (repeats (s.heard l))) ∧
    (∀ left, s.hau.engine ≠ .halted → r.syncTimer = .running left →
      exec (.syncTimerExpiry i) s = .next (repeats s))

/-- A SYNC of the agreed generation on an OPEN or DRAINING stream is a duplicate: SYNC_ACK is produced, and neither
the stream record nor any list or context is touched (R9). A SYNC on a CLOSED, RELEASING or FAULTED stream is
ignored, whatever generation it carries: no SYNC_ACK is produced and the stream record is unchanged (R11). A notice
that any block produces joins the tail of the notice queue if the link is UP and fewer than 32 wait there, and is
discarded otherwise; nothing else depends on which (R125). -/
def Obligations.OtherSyncsAnsweredOrIgnored : Prop :=
  ∀ (s : State) (l : LaneId) (i : StreamId) (g : Gen), HearsUp s l →
    ((s.stream i).state = .opened ∨ (s.stream i).state = .draining → g = (s.stream i).gen →
      exec (.syncReceived l i g) s = .next ((s.heard l).produceNotice (.syncAck i g))) ∧
    ((s.stream i).state = .closed ∨ (s.stream i).state = .releasing ∨ (s.stream i).state = .faulted →
      exec (.syncReceived l i g) s = .next (s.heard l)) ∧
    ∀ (u : State) (n : Notice), u.produceNotice n = { u with
      lm.noticeQueue :=
        if u.lm.linkState = .up ∧ u.lm.noticeQueue.length < 32 then u.lm.noticeQueue ++ [n]
        else u.lm.noticeQueue }

/-- A SYNC of another generation on an OPEN or DRAINING stream is a resync: the list fails PEER_RESYNC, the contexts
are flushed under the old generation with STREAM_RESYNC, both sequences restart at 0, note and history are emptied,
the new generation is taken and answered, and a RESYNCED event is recorded. An OPEN stream stays OPEN; the drain of
a DRAINING one ends, its buffers returned under the new generation (R10, R14, R23, R48). Where one event posts several
records, the interrupt is judged at each posting, which is the model's choice (assumption 17). -/
def Obligations.SyncResyncs : Prop :=
  ∀ (s : State) (l : LaneId) (i : StreamId) (g : Gen), HearsUp s l → g ≠ (s.stream i).gen → FencesUnsettled s →
    let r := s.stream i
    let failed := (s.txs i).list.map fun e =>
      if e.finished then e else { e with state := .failed .peerResync }
    let u := (((s.heard l).freeSlotsOfStream i).emptied i (s.flushed i .streamResync)).withRetired i failed
    let resynced := State.produceNotice (.syncAck i g)
      (((u.setTxs i { u.txs i with txNext := 0 }).setRxs i { u.rxs i with rxExpected := 0 }).setStream i
        ({ r with gen := g, lastGen := g, deferralNote := none, history := [] }.withEvent .resynced g))
    (r.state = .opened → exec (.syncReceived l i g) s = .next resynced) ∧
    (r.state = .draining → exec (.syncReceived l i g) s =
      .next (resynced.ended i [] [] [] r.closePending .closed))

/-- A SYNC_ACK of the proposed generation on an OPENING stream makes it OPEN: the sync timer stops, and the OPEN
finishes SUCCESS with the current `sync_sent`. With another generation, and in every other state, it is ignored and
the stream record is unchanged (R7). -/
def Obligations.SyncAckOpens : Prop :=
  ∀ (s : State) (l : LaneId) (i : StreamId) (g : Gen), HearsUp s l →
    let r := s.stream i
    (∀ tag, r.state = .opening → g = r.gen → r.openPending = some tag →
      exec (.syncAckReceived l i g) s = .next
        (((s.heard l).setStream i
          { r with state := .opened, syncTimer := .stopped, openPending := none }).withPosted
          [doneFor .openStream i tag .success (.openDone r.syncSent)])) ∧
    (r.state ≠ .opening ∨ g ≠ r.gen → exec (.syncAckReceived l i g) s = .next (s.heard l))

/-! ### The Link Manager -/

/-- What a lane transmits by its state: nothing in OFF, ALIGN of the configured role and epoch with ready 0 in
SEEKING and ready 1 in ALIGNED, the oldest unit of its queue in UP, which leaves the queue, or IDLE (R110, R191). -/
def Obligations.LaneTransmits : Prop :=
  ∀ (s : State) (l : LaneId),
    let c := s.rp.config
    let sends (u : State) (x : LinkUnit) : State := { u with emitted := .laneUnit l x.bytes :: s.emitted }
    ((s.lane l).state = .off → exec (.laneUnitTransmit l) s = .next s) ∧
    ((s.lane l).state = .seeking →
      exec (.laneUnitTransmit l) s = .next (sends s (.align c.role c.localEpoch false))) ∧
    ((s.lane l).state = .aligned →
      exec (.laneUnitTransmit l) s = .next (sends s (.align c.role c.localEpoch true))) ∧
    ((s.lane l).state = .up → (s.lane l).txQueue = [] →
      exec (.laneUnitTransmit l) s = .next (sends s .idle)) ∧
    (∀ x rest, (s.lane l).state = .up → (s.lane l).txQueue = x :: rest →
      exec (.laneUnitTransmit l) s = .next (sends (s.setLane l { s.lane l with txQueue := rest }) x))

/-- A good ALIGN on a lane that trains: in SEEKING one of the other role counts and the eighth makes the lane
ALIGNED, one of the own role breaks the run and sets `role_clash`; in ALIGNED one with ready 0 changes nothing, and
one with ready 1 and the first or the recorded epoch makes the lane UP. With another lane UP the link state stays;
else the link comes UP, suspended timers resume and one link change is recorded. An UP lane ignores a ready ALIGN
(R51, R111, R114, R115, R121, R123, R124, R129). -/
def Obligations.AlignTrainsLane : Prop :=
  ∀ (s : State) (l : LaneId) (role : Role) (epoch : Byte) (ready : Bool), s.hau.engine ≠ .halted → epoch ≠ 0 →
    let r := s.lane l
    let hears := exec (.alignReceived l role epoch ready) s
    let other := role ≠ s.rp.config.role
    (r.state = .seeking → other → r.validRun < 7 →
      hears = .next (s.setLane l { r with badRun := 0, validRun := r.validRun + 1 })) ∧
    (r.state = .seeking → other → r.validRun = 7 → hears = .next
      { s.setLane l { r with state := .aligned, badRun := 0, validRun := 0, silenceTimer := .running 64 } with
        lm.roleClash := false }) ∧
    (r.state = .seeking → ¬other → hears = .next
      { s.setLane l { r with badRun := 0, validRun := 0 } with lm.roleClash := true }) ∧
    (r.state = .aligned → other → ready = false → hears = .next (s.heard l)) ∧
    (r.state = .aligned → other → ready = true → s.lm.partnerEpoch = 0 ∨ s.lm.partnerEpoch = epoch →
      LinkAgrees s →
      let up := (s.heard l).setLane l { r with state := .up, badRun := 0, silenceTimer := .running 64 }
      (s.lm.linkState = .up → hears = .next { up with lm.partnerEpoch := epoch }) ∧
      (s.lm.linkState = .down → hears = .next { up with
        lm.partnerEpoch := epoch
        lm.linkState := .up
        lm.linkEvent := satInc s.lm.linkEvent
        te.tx := s.te.tx.map fun t => { t with list := t.list.map SendEntry.resumeTimers } })) ∧
    (r.state = .up → ready = true → hears = .next (s.heard l))

/-- A ready ALIGN of a new epoch on an ALIGNED lane is a partner restart: the epoch is recorded, the lane is UP, every
other ALIGNED or UP lane returns to SEEKING, and one link change is recorded. OPEN streams are FAULTED with
PEER_RESET and DRAINING ones ended, both with empty lists; a FAULTED one records the event; an OPENING one repeats
its SYNC, and the notice queue holds those SYNCs alone; CLOSED and RELEASING streams stay as they are. The contexts of
OPEN and DRAINING streams are flushed with PEER_RESET. Unfinished SENDs complete PEER_RESET and finished ones with
their outcome, stream after stream in increasing number and in MSN order within a stream, each with the fences it
completes; a DRAINING stream with nothing to release finishes its CLOSEs in its turn (R19, R20, R22, R23, R47, R48,
R63, R101, R121, R122, R125). Where one event posts several records, the interrupt is judged at each posting, which is
the model's choice (assumption 17). -/
def Obligations.RestartFaultsStreams : Prop :=
  ∀ (s : State) (l : LaneId) (role : Role) (epoch : Byte), s.hau.engine ≠ .halted → epoch ≠ 0 →
    (s.lane l).state = .aligned → role ≠ s.rp.config.role → s.lm.partnerEpoch ≠ 0 →
    s.lm.partnerEpoch ≠ epoch → ∃ t, exec (.alignReceived l role epoch true) s = .next t ∧
      t.lm.partnerEpoch = epoch ∧ t.lm.linkState = .up ∧ t.lm.linkEvent = satInc s.lm.linkEvent ∧
      t.lane l = { s.lane l with state := .up, badRun := 0, silenceTimer := .running 64 } ∧
      (∀ k, k ≠ l → t.lane k =
        if (s.lane k).state = .aligned ∨ (s.lane k).state = .up then (s.lane k).seekingFrom else s.lane k) ∧
      t.lm.noticeQueue = (((List.finRange 64).filter fun i => decide ((s.stream i).state = .opening)).map
        fun i => Notice.sync i (s.stream i).gen).take 32 ∧
      (∀ i, let r := s.stream i
        (r.state = .opened → (t.txs i).list = [] ∧
          t.stream i = { r with state := .faulted }.withEvent (.faulted .peerReset) r.gen) ∧
        (r.state = .draining → (t.txs i).list = [] ∧ (t.rxs i).bufferList = [] ∧
          (t.stream i).releaseCause = .faulted ∧ (t.stream i).event = r.event ∧
          (t.stream i).state = (if (t.rxs i).releaseList = [] then .closed else .releasing)) ∧
        (r.state = .faulted → t.stream i = r.withEvent (.faulted .peerReset) r.gen) ∧
        (r.state = .opening → t.stream i = { r with
          syncSent := satInc r.syncSent
          syncTimer := .running s.rp.config.syncInterval }) ∧
        (r.state = .closed ∨ r.state = .releasing → t.stream i = r)) ∧
      (∀ c ∈ t.re.contexts, (s.stream c.stream).state ≠ .opened ∧ (s.stream c.stream).state ≠ .draining) ∧
      t.re.contexts = (s.re.contexts.filter fun c =>
        decide ((s.stream c.stream).state ≠ .opened ∧ (s.stream c.stream).state ≠ .draining)) ∧
      (∀ i, ((s.stream i).state = .opened →
          (t.rxs i).releaseList = (s.rxs i).releaseList ++ s.flushed i .peerReset ∧
          (t.rxs i).bufferList = (s.rxs i).bufferList) ∧
        ((s.stream i).state = .draining → (t.rxs i).releaseList = s.resetReleases i) ∧
        ((s.stream i).state ≠ .opened → (s.stream i).state ≠ .draining →
          t.txs i = { s.txs i with
            list := if s.lm.linkState = .down then (s.txs i).list.map SendEntry.resumeTimers else (s.txs i).list } ∧
          t.rxs i = s.rxs i)) ∧
      (FencesUnsettled s →
        let posts := s.restartPosts (List.finRange 64) s.ft
        t.ft = posts.2 ∧ t.cp = (s.withPosted posts.1).cp ∧ t.hau = (s.withPosted posts.1).hau)

/-- What sends a lane back to SEEKING, and what does not. A valid unit other than ALIGN (IDLE, SLICE or any notice) takes
an ALIGNED lane back, breaks the run of a SEEKING one, and an UP lane consumes an IDLE. An ALIGN of the own role takes
an ALIGNED lane back and sets `role_clash`, one with ready 0 an UP lane. So do the silence limit and the fourth bad
unit in a row; a bad unit short of the fourth is counted and restarts the silence limit, and a SEEKING lane counts it
and breaks its run. An OFF lane does not listen, and while the engine is HALTED no lane changes. Where the last UP
lane returns, the link is DOWN in the same event (R111, R113 to R118, R123, R129, R131). -/
def Obligations.LaneReturnsToSeeking : Prop :=
  ∀ (s : State) (l : LaneId) (i : StreamId) (g : Gen) (m : Msn) (a : Attempt) (reason : DeferReason) (index : Byte)
    (last : Bool) (payload : List Byte),
    let r := s.lane l
    let bad : Lane := { r with badUnits := satInc r.badUnits }
    let others : List Instr := [.idleReceived l, .sliceReceived l i g m a index last payload, .syncReceived l i g,
      .syncAckReceived l i g, .ackReceived l i g m, .deferReceived l i g m a reason, .rejectTooLongReceived l i g m,
      .rejectNotOpenReceived l i g m]
    (s.hau.engine ≠ .halted → LinkAgrees s →
      (∀ c ∈ others,
        (r.state = .aligned → exec c s = .next (s.laneLost l r)) ∧
        (r.state = .seeking → exec c s = .next (s.setLane l { r with badRun := 0, validRun := 0 })) ∧
        (r.state = .off → exec c s = .next s)) ∧
      (r.state = .up → exec (.idleReceived l) s = .next (s.heard l)) ∧
      (∀ role epoch ready, epoch ≠ 0 →
        (r.state = .aligned → role = s.rp.config.role →
          exec (.alignReceived l role epoch ready) s = .next { s.laneLost l r with lm.roleClash := true }) ∧
        (r.state = .up → ready = false →
          exec (.alignReceived l role epoch ready) s = .next (s.laneLost l r)) ∧
        (r.state = .off → exec (.alignReceived l role epoch ready) s = .next s)) ∧
      (∀ left, r.state = .aligned ∨ r.state = .up → r.silenceTimer = .running left →
        exec (.silenceTimerExpiry l) s = .next (s.laneLost l r)) ∧
      (r.state = .aligned ∨ r.state = .up → 3 ≤ r.badRun →
        exec (.badUnitReceived l) s = .next (s.laneLost l bad)) ∧
      (r.state = .aligned ∨ r.state = .up → r.badRun < 3 → exec (.badUnitReceived l) s = .next
        (s.setLane l { bad with badRun := r.badRun + 1, silenceTimer := .running 64 })) ∧
      (r.state = .seeking → exec (.badUnitReceived l) s = .next (s.setLane l { bad with validRun := 0 })) ∧
      (r.state = .off → exec (.badUnitReceived l) s = .next s)) ∧
    (s.hau.engine = .halted →
      (∀ c ∈ others, exec c s = .next s) ∧ exec (.badUnitReceived l) s = .next s ∧
        exec (.silenceTimerExpiry l) s = .next s ∧
        ∀ role epoch ready, exec (.alignReceived l role epoch ready) s = .next s)

/-- The silence of the last UP lane, an ALIGN with ready 0 on it, or its fourth bad unit in a row takes the link DOWN in
the same event: the notice queue is emptied, a link change and a retrain are counted, every slicer slot is freed and
its entry QUEUED with the attempt after the slot's, and the timers of every entry are suspended (R50, R115 to R118,
R123, R124). -/
def Obligations.LastLaneTakesLinkDown : Prop :=
  ∀ (s : State) (l : LaneId), s.hau.engine ≠ .halted → s.lm.linkState = .up →
    (s.lane l).state = .up → (∀ k, k ≠ l → (s.lane k).state ≠ .up) →
    let down (lane : Lane) : State := { s with
      lm := { s.lm with
        lanes := s.lm.lanes.set l lane
        linkState := .down
        noticeQueue := []
        linkEvent := satInc s.lm.linkEvent }
      te.slots := Vector.replicate 4 none
      te.tx := Vector.ofFn fun i => { s.txs i with
        list := (s.txs i).list.map fun e => match s.slotWorkOf i e.msn with
          | some w => { e.suspendTimers with state := .queued, attempt := w.attempt + 1 }
          | none => e.suspendTimers } }
    (∀ left : Nat, (s.lane l).silenceTimer = .running left →
      exec (.silenceTimerExpiry l) s = .next (down (s.lane l).seekingFrom)) ∧
    (∀ role epoch, epoch ≠ 0 →
      exec (.alignReceived l role epoch false) s = .next (down (s.lane l).seekingFrom)) ∧
    (3 ≤ (s.lane l).badRun → exec (.badUnitReceived l) s =
      .next (down { (s.lane l).seekingFrom with badUnits := satInc (s.lane l).badUnits }))

/-! ### The Completion Poster and the write queue -/

/-- While a slot is free and the engine is not HALTED, the pending link event is granted: a LINK_EVENT is posted with
the link as it stands and the count becomes 0. Without one, the lowest stream with a recorded event is granted: its
STREAM_EVENT is posted and the field emptied. While a link event pends, no lower claim is granted (R24, R124, R158,
R161). -/
def Obligations.EventsAreGranted : Prop :=
  ∀ (s : State), s.hau.engine ≠ .halted → s.cp.unconsumed + s.cp.reserved < 2 ^ s.hau.cqRing.order.toNat →
    (s.lm.linkEvent ≠ 0 →
      exec .linkEventGrant s = .next
        { s.withGranted (.linkEvent s.lm.linkState s.lanesUp s.lm.partnerEpoch s.lm.linkEvent) with
          lm.linkEvent := 0 } ∧
      exec .streamEventGrant s = .next s ∧ exec .releaseListGrant s = .next s ∧
      exec .reservationGrant s = .next s) ∧
    (∀ (i : StreamId) (e : StreamEvent), s.lm.linkEvent = 0 → (s.stream i).event = some e →
      (∀ j < i, (s.stream j).event = none) →
      exec .streamEventGrant s = .next
        ((s.withGranted (.streamEvent i e)).setStream i { s.stream i with event := none }) ∧
      exec .releaseListGrant s = .next s ∧ exec .reservationGrant s = .next s)

/-- With no event pending, the first stream after the release pointer with a release list is granted: its head record
is posted and leaves the list, and the pointer names the stream. A RELEASING stream whose list is then empty is
CLOSED and its pending CLOSEs finish in the order taken (R18, R61, R64, R158, R163, R168). Where one event posts several
records, the interrupt is judged at each posting, which is the model's choice (assumption 17). -/
def Obligations.ReleaseListIsGranted : Prop :=
  ∀ (s : State) (i : StreamId) (b : Buffer) (x : ReleaseRecord) (rest : List ReleaseEntry),
    s.hau.engine ≠ .halted → s.cp.unconsumed + s.cp.reserved < 2 ^ s.hau.cqRing.order.toNat →
    s.lm.linkEvent = 0 → (∀ j, (s.stream j).event = none) →
    FirstInTurn s.cp.releasePointer i (fun j => (s.rxs j).releaseList ≠ []) →
    (s.rxs i).releaseList = ⟨b, x⟩ :: rest →
    let r := s.stream i
    let posted : Completion := match x with
      | .arrival g m n status => .arrival i b.tag g m n status
      | .bufferReturn g reason => .bufferReturn i b.tag g reason
    let u : State := { (s.withGranted posted).setRxs i { s.rxs i with releaseList := rest } with
      cp.releasePointer := i }
    exec .releaseListGrant s = .next
      (if r.state = .releasing ∧ rest = [] then
        (u.setStream i { r with state := .closed, closePending := [] }).withPosted
          (closesDone i r.closePending r.releaseCause)
      else u)

/-- A record moves from the backlog to the write queue while the queue has room; its write departs from the head of
the queue with the 32 bytes of the record and lowers the departures an owed interrupt awaits; and an interrupt that
awaits none is sent once, or is no longer owed where the endpoint's interrupt is disabled. The 32 bytes are those of
the record's layout: kind, phase, stream and status, the tag, the bytes of its kind, least significant byte first, and
zeros (R164, R165, R184, R188, R194, R195). -/
def Obligations.RecordsAndInterruptLeave : Prop :=
  ∀ (s : State) (p : PostedRecord),
    (∀ rest, s.hau.engine ≠ .halted → s.cp.backlog = p :: rest → s.hau.writeQueue.length < 16 →
      exec .backlogMove s = .next { s with
        cp.backlog := rest
        hau.writeQueue := s.hau.writeQueue ++ [.record p] }) ∧
    (16 ≤ s.hau.writeQueue.length → exec .backlogMove s = .next s) ∧
    (∀ rest, s.hau.writeQueue = .record p :: rest → p.bytes.length = 32 ∧
      exec .recordWriteDeparts s = .next { s with
        hau.writeQueue := rest
        hau.interruptOwed := s.hau.interruptOwed.map fun n => n - 1
        emitted := .hostWrite p.address p.bytes :: s.emitted }) ∧
    (∀ enabled : Bool, s.hau.interruptOwed = some 0 → exec (.interruptMessage enabled) s = .next { s with
      hau.interruptOwed := none
      emitted := if enabled then .interruptMessage :: s.emitted else s.emitted }) ∧
    (∀ enabled : Bool, s.hau.interruptOwed ≠ some 0 → exec (.interruptMessage enabled) s = .next s) ∧
    (let two (n : Nat) : List Byte := [BitVec.ofNat 8 n, BitVec.ofNat 8 (n / 256)]
     let four (t : Tag) : List Byte := two (t.toNat % 65536) ++ two (t.toNat / 65536)
     let failure (f : SendFailure) : Byte := match f with
       | .noResponse => 0x10
       | .remoteClosed => 0x11
       | .remoteTooLong => 0x12
       | .streamFaulted => 0x13
       | .closedLocally => 0x14
       | .peerResync => 0x15
       | .peerReset => 0x16
     let code (x : Status) : Byte := match x with
       | .success => 0x00
       | .badRequest => 0x01
       | .notConfigured => 0x02
       | .wrongState => 0x03
       | .busy => 0x04
       | .listFull => 0x05
       | .poolEmpty => 0x06
       | .fenceBusy => 0x07
       | .cancelled => 0x08
       | .sendFailed f => failure f
     let streamState (x : StreamState) : Byte := match x with
       | .closed => 0x00
       | .opening => 0x01
       | .opened => 0x02
       | .draining => 0x03
       | .releasing => 0x04
       | .faulted => 0x05
     let laneState (x : LaneState) : Byte := match x with
       | .off => 0x00
       | .seeking => 0x01
       | .aligned => 0x02
       | .up => 0x03
     let link (x : LinkState) : Byte := if x = .up then 0x01 else 0x00
     let own (body : DoneBody) : List Byte := match body with
       | .none => []
       | .openDone sent => two sent.toNat
       | .closeDone mode => [if mode = .graceful then 0x01 else 0x02]
       | .sendDone m retries defers => [m, BitVec.ofNat 8 retries, defers]
       | .postDone listed => [BitVec.ofNat 8 listed]
       | .fenceDone scope failures awaited =>
         [if scope = .all then 0x02 else 0x01, 0] ++ two failures ++ two awaited
       | .streamDone r => [streamState r.state, r.gen.setWidth 8, r.txNext, r.headMsn, BitVec.ofNat 8 r.listLength,
           r.rxExpected, BitVec.ofNat 8 r.contextsInUse, BitVec.ofNat 8 r.buffersListed] ++ two r.slicesSent.toNat ++
           two r.retransmissions.toNat ++ two r.defersReceived.toNat ++ two r.defersSent.toNat ++
           two r.straysDropped.toNat
       | .linkDone r => (List.finRange 4).flatMap (fun l =>
           [laneState r.lanes[l].state, r.lanes[l].badUnits, r.lanes[l].retrains]) ++
           [r.partnerEpoch, link r.linkState, if r.roleClash then 0x01 else 0x00]
     let named : List Byte := match p.content with
       | .requestDone kind stream tag status body =>
         [0x01, if p.phase then 0x01 else 0x00, stream, code status] ++ four tag ++ [kind, 0, 0, 0] ++ own body
       | .arrival i tag g m n status =>
         [0x02, if p.phase then 0x01 else 0x00, BitVec.ofNat 8 i.val, if status = .oversize then 0x01 else 0x00] ++
           four tag ++ [g.setWidth 8, m] ++ two n
       | .bufferReturn i tag g reason =>
         [0x03, if p.phase then 0x01 else 0x00, BitVec.ofNat 8 i.val, match reason with
           | .streamClosed => 0x01
           | .streamResync => 0x02
           | .streamFaulted => 0x03
           | .peerReset => 0x04] ++ four tag ++ [g.setWidth 8]
       | .streamEvent i e =>
         [0x04, if p.phase then 0x01 else 0x00, BitVec.ofNat 8 i.val, match e.kind with
           | .faulted .noResponse => 0x10
           | .faulted .remoteClosed => 0x11
           | .faulted .peerReset => 0x16
           | .resynced => 0x00, 0, 0, 0, 0, if e.kind = .resynced then 0x02 else 0x01, e.gen.setWidth 8, e.count]
       | .linkEvent state lanes epoch count =>
         [0x05, if p.phase then 0x01 else 0x00, 0, 0, 0, 0, 0, 0, link state, lanes.setWidth 8, epoch, count]
     p.bytes.length = 32 ∧ p.bytes = named ++ List.replicate (32 - named.length) 0)

/-! ### Formats -/

/-- Every unit the part can build, sent with its CRC, is judged good and read as itself; and received bytes whose last
four are not the CRC of those before them are a bad unit (R111, R190 to R192, R195). -/
def Obligations.UnitsReadBack : Prop :=
  (∀ x : LinkUnit,
    (match x with
      | .align _ epoch _ => epoch ≠ 0
      | .slice u => u.payload.length ≤ 256
      | _ => True) →
    judgeUnit x.bytes = some x) ∧
  ∀ (bs : List Byte) (l : LaneId),
    ¬(4 ≤ bs.length ∧ bs.drop (bs.length - 4) = leBytes 4 (crc (bs.take (bs.length - 4))).toNat) →
    receptionOf l bs = .badUnitReceived l

/-! ### Invariants -/

/-- Every step keeps the link UP exactly while a lane is UP, each lane in OFF exactly outside the lane mask, units only
on UP lanes, the silence timer stopped in OFF and SEEKING, and the two runs below their limits (R108, R114, R116,
R117, R120, R123, R128). -/
def Obligations.StepKeepsLinkAndLanes : Prop :=
  ∀ s t : State, LinkAgrees s → LanesAgree s → step s = .next t → LinkAgrees t ∧ LanesAgree t

/-- Every step keeps the queues, tables, lists and pools of the part within their limits (R27, R56, R58, R70, R97,
R108, R109, R180, R183). -/
def Obligations.StepKeepsLimits : Prop :=
  ∀ s t : State, QueuesBounded s → ListsBounded s → step s = .next t → QueuesBounded t ∧ ListsBounded t

/-- Every step keeps the halt cause, FAULT_ADDRESS, ENABLE and HOLDING in agreement with the engine state, and the
queues empty while HALTED (R131, R139, R171, R174, R175, R177, R185). -/
def Obligations.StepKeepsEngineAgreeing : Prop :=
  ∀ s t : State, EngineAgrees s → HaltedQuiet s → step s = .next t → EngineAgrees t ∧ HaltedQuiet t

/-- Every step keeps the reserved slots equal to the requests that hold one, and with the unconsumed records within
the completion ring (R1, R146, R157, R160). -/
def Obligations.StepKeepsSlotsAccounted : Prop :=
  ∀ s t : State, SlotsAccounted s → step s = .next t → SlotsAccounted t

/-- Every step keeps each context's MSN within its stream's receive window, one context for an MSN, contexts on OPEN
and DRAINING streams only, and occupancies distinct (R70, R71). -/
def Obligations.StepKeepsContextsInWindow : Prop :=
  ∀ s t : State, ContextsInWindow s → step s = .next t → ContextsInWindow t

/-- Every step keeps a stream that has ended empty (given that contexts stand on OPEN and DRAINING streams only), `gen`
equal to `last_gen`, the pending CLOSEs as R12 allows them, the sync timer stopped outside OPENING, and the history
within 8 pairs (R3, R5, R12, R18, R27, R58, R86). -/
def Obligations.StepKeepsStreamRecords : Prop :=
  ∀ s t : State, ContextsInWindow s → EndedIsEmpty s → StreamRecordsLawful s → step s = .next t →
    EndedIsEmpty t ∧ StreamRecordsLawful t

/-- Every step keeps the law of the transmit lists: MSNs without gap up to `tx_next` − 1, entries beyond the window
QUEUED, entries on OPENING, OPEN and DRAINING streams only, and an entry SENDING exactly while one slot holds it
(R27, R28, R30, R31). -/
def Obligations.StepKeepsTransmitListsLawful : Prop :=
  ∀ s t : State, TransmitListsLawful s → step s = .next t → TransmitListsLawful t

/-- Every step keeps ack timers on AWAITING entries, holdoff timers on HELD ones, and neither running while the link
is DOWN or the engine HALTED (R38, R40, R50, R54). -/
def Obligations.StepKeepsEntryTimersLawful : Prop :=
  ∀ s t : State, LinkAgrees s → TransmitListsLawful s → EntryTimersLawful s → step s = .next t →
    EntryTimersLawful t

/-- Every step keeps each pending fence awaiting a retirement, and no more of them on a stream than its list holds
(R97, R101, R102). -/
def Obligations.StepKeepsFencesAwaiting : Prop :=
  ∀ s t : State, FencesAwait s → step s = .next t → FencesAwait t

/-! ### Whole-machine rules -/

/-- The recorded partner epoch is 0 after a reset, and otherwise changes only at a ready ALIGN of the opposite role on
an ALIGNED lane, to the epoch that ALIGN carries (R119). -/
def Obligations.PartnerEpochChangesOnlyByAlign : Prop :=
  ∀ (c : Instr) (s t : State), exec c s = .next t →
    let resets := c = .portReset ∨ c = .softReset ∨ ∃ v, v.getLsbD 1 = true ∧ c = .registerWrite 0x04 4 v
    (resets → t.lm.partnerEpoch = 0) ∧
    (¬resets → t.lm.partnerEpoch ≠ s.lm.partnerEpoch →
      ∃ l role epoch, c = .alignReceived l role epoch true ∧ (s.lane l).state = .aligned ∧
        role ≠ s.rp.config.role ∧ epoch ≠ 0 ∧ t.lm.partnerEpoch = epoch)

/-- The engine state changes only so: a reset makes it STOPPED; a CONTROL write with RESET 0 moves it between STOPPED
and RUNNING; the failure of an outstanding read makes it HALTED, and FAULT_ADDRESS is then the start of that read
(R175, R178, R181, R185). -/
def Obligations.EngineMovesAsTold : Prop :=
  ∀ (c : Instr) (s t : State), exec c s = .next t → t.hau.engine ≠ s.hau.engine →
    let controls (enable : Bool) := (∃ ie, c = .intEnableWrite enable ie) ∨
      (∃ ie, c = if enable then .enableSet ie else .enableClear ie) ∨
      ∃ v, v.getLsbD 1 = false ∧ v.getLsbD 0 = enable ∧ c = .registerWrite 0x04 4 v
    (t.hau.engine = .stopped ∧
      (c = .portReset ∨ c = .softReset ∨ ∃ v, v.getLsbD 1 = true ∧ c = .registerWrite 0x04 4 v)) ∨
    (s.hau.engine = .stopped ∧ t.hau.engine = .running ∧ controls true) ∨
    (s.hau.engine = .running ∧ t.hau.engine = .stopped ∧ controls false) ∨
    (s.hau.engine ≠ .halted ∧ t.hau.engine = .halted ∧ ∃ id r, s.readOf id = some r ∧
      (c = .readError id ∨ (c = .readTimeout id ∧ r.timer.isRunning = true)) ∧ t.hau.faultAddress = r.address)

/-- HALTED freezes the part: with its queues empty, every command but a reset leaves the engine state, the halt cause,
FAULT_ADDRESS and both ring registers, every stream record, transmit list, slicer slot, buffer, context, fence, lane
and the link record as they are, and of the Request Processor and the Completion Poster changes at most RQ_TAIL and
the unconsumed count (R25, R54, R67, R95, R106, R131, R152, R171, R185, R186). -/
def Obligations.HaltedFreezes : Prop :=
  ∀ (c : Instr) (s t : State), s.hau.engine = .halted → HaltedQuiet s → c ≠ .portReset → c ≠ .softReset →
    (∀ v, v.getLsbD 1 = true → c ≠ .registerWrite 0x04 4 v) → exec c s = .next t →
    t.st = s.st ∧ t.te = s.te ∧ t.re = s.re ∧ t.ft = s.ft ∧ t.lm = s.lm ∧
    t.rp = { s.rp with rqTail := t.rp.rqTail } ∧ t.cp = { s.cp with unconsumed := t.cp.unconsumed } ∧
    t.hau.engine = .halted ∧ t.hau.haltCause = s.hau.haltCause ∧ t.hau.faultAddress = s.hau.faultAddress ∧
    t.hau.rqRing = s.hau.rqRing ∧ t.hau.cqRing = s.hau.cqRing ∧ t.hau.writeQueue = []

/-- A stream changes state only as the table of section 1.10 allows within one event, and every other stream state
follows from a reset (R2, R4, R7, R8, R10, R13 to R20, R22). -/
def Obligations.StreamStatesMoveLawfully : Prop :=
  ∀ (c : Instr) (s t : State), c ≠ .portReset → c ≠ .softReset →
    (∀ v, v.getLsbD 1 = true → c ≠ .registerWrite 0x04 4 v) → exec c s = .next t →
    ∀ i : StreamId, (t.stream i).state = (s.stream i).state ∨
      ((s.stream i).state, (t.stream i).state) ∈
        ([(.closed, .opening), (.opening, .opened), (.opening, .releasing), (.opening, .closed),
          (.opened, .draining), (.opened, .releasing), (.opened, .closed), (.opened, .faulted),
          (.draining, .releasing), (.draining, .closed), (.faulted, .releasing), (.faulted, .closed),
          (.releasing, .closed)] : List (StreamState × StreamState))
end

