-- ==== Sys2Proof/Laws/State.lean ====
section
/-! SUPPORT. The small lemmas of the record updates: what each leaves of every field of the state, and reading by number after writing by number. -/

namespace Sys2Proof.Machine

/-! ### setStream -/

@[simp] theorem State.setStream_hau (s : State) (i : StreamId) (r : StreamRecord) : (s.setStream i r).hau = s.hau := rfl
@[simp] theorem State.setStream_rp (s : State) (i : StreamId) (r : StreamRecord) : (s.setStream i r).rp = s.rp := rfl
@[simp] theorem State.setStream_te (s : State) (i : StreamId) (r : StreamRecord) : (s.setStream i r).te = s.te := rfl
@[simp] theorem State.setStream_re (s : State) (i : StreamId) (r : StreamRecord) : (s.setStream i r).re = s.re := rfl
@[simp] theorem State.setStream_ft (s : State) (i : StreamId) (r : StreamRecord) : (s.setStream i r).ft = s.ft := rfl
@[simp] theorem State.setStream_lm (s : State) (i : StreamId) (r : StreamRecord) : (s.setStream i r).lm = s.lm := rfl
@[simp] theorem State.setStream_cp (s : State) (i : StreamId) (r : StreamRecord) : (s.setStream i r).cp = s.cp := rfl
@[simp] theorem State.setStream_emitted (s : State) (i : StreamId) (r : StreamRecord) : (s.setStream i r).emitted = s.emitted := rfl
@[simp] theorem State.setStream_pending (s : State) (i : StreamId) (r : StreamRecord) : (s.setStream i r).pending = s.pending := rfl

/-! ### setTxs -/

@[simp] theorem State.setTxs_hau (s : State) (i : StreamId) (r : TxStream) : (s.setTxs i r).hau = s.hau := rfl
@[simp] theorem State.setTxs_rp (s : State) (i : StreamId) (r : TxStream) : (s.setTxs i r).rp = s.rp := rfl
@[simp] theorem State.setTxs_st (s : State) (i : StreamId) (r : TxStream) : (s.setTxs i r).st = s.st := rfl
@[simp] theorem State.setTxs_re (s : State) (i : StreamId) (r : TxStream) : (s.setTxs i r).re = s.re := rfl
@[simp] theorem State.setTxs_ft (s : State) (i : StreamId) (r : TxStream) : (s.setTxs i r).ft = s.ft := rfl
@[simp] theorem State.setTxs_lm (s : State) (i : StreamId) (r : TxStream) : (s.setTxs i r).lm = s.lm := rfl
@[simp] theorem State.setTxs_cp (s : State) (i : StreamId) (r : TxStream) : (s.setTxs i r).cp = s.cp := rfl
@[simp] theorem State.setTxs_emitted (s : State) (i : StreamId) (r : TxStream) : (s.setTxs i r).emitted = s.emitted := rfl
@[simp] theorem State.setTxs_pending (s : State) (i : StreamId) (r : TxStream) : (s.setTxs i r).pending = s.pending := rfl

/-! ### setRxs -/

@[simp] theorem State.setRxs_hau (s : State) (i : StreamId) (r : RxStream) : (s.setRxs i r).hau = s.hau := rfl
@[simp] theorem State.setRxs_rp (s : State) (i : StreamId) (r : RxStream) : (s.setRxs i r).rp = s.rp := rfl
@[simp] theorem State.setRxs_st (s : State) (i : StreamId) (r : RxStream) : (s.setRxs i r).st = s.st := rfl
@[simp] theorem State.setRxs_te (s : State) (i : StreamId) (r : RxStream) : (s.setRxs i r).te = s.te := rfl
@[simp] theorem State.setRxs_ft (s : State) (i : StreamId) (r : RxStream) : (s.setRxs i r).ft = s.ft := rfl
@[simp] theorem State.setRxs_lm (s : State) (i : StreamId) (r : RxStream) : (s.setRxs i r).lm = s.lm := rfl
@[simp] theorem State.setRxs_cp (s : State) (i : StreamId) (r : RxStream) : (s.setRxs i r).cp = s.cp := rfl
@[simp] theorem State.setRxs_emitted (s : State) (i : StreamId) (r : RxStream) : (s.setRxs i r).emitted = s.emitted := rfl
@[simp] theorem State.setRxs_pending (s : State) (i : StreamId) (r : RxStream) : (s.setRxs i r).pending = s.pending := rfl

/-! ### setLane -/

@[simp] theorem State.setLane_hau (s : State) (l : LaneId) (r : Lane) : (s.setLane l r).hau = s.hau := rfl
@[simp] theorem State.setLane_rp (s : State) (l : LaneId) (r : Lane) : (s.setLane l r).rp = s.rp := rfl
@[simp] theorem State.setLane_st (s : State) (l : LaneId) (r : Lane) : (s.setLane l r).st = s.st := rfl
@[simp] theorem State.setLane_te (s : State) (l : LaneId) (r : Lane) : (s.setLane l r).te = s.te := rfl
@[simp] theorem State.setLane_re (s : State) (l : LaneId) (r : Lane) : (s.setLane l r).re = s.re := rfl
@[simp] theorem State.setLane_ft (s : State) (l : LaneId) (r : Lane) : (s.setLane l r).ft = s.ft := rfl
@[simp] theorem State.setLane_cp (s : State) (l : LaneId) (r : Lane) : (s.setLane l r).cp = s.cp := rfl
@[simp] theorem State.setLane_emitted (s : State) (l : LaneId) (r : Lane) : (s.setLane l r).emitted = s.emitted := rfl
@[simp] theorem State.setLane_pending (s : State) (l : LaneId) (r : Lane) : (s.setLane l r).pending = s.pending := rfl

/-! ### setSlot -/

@[simp] theorem State.setSlot_hau (s : State) (k : SlotId) (w : Option SlotWork) : (s.setSlot k w).hau = s.hau := rfl
@[simp] theorem State.setSlot_rp (s : State) (k : SlotId) (w : Option SlotWork) : (s.setSlot k w).rp = s.rp := rfl
@[simp] theorem State.setSlot_st (s : State) (k : SlotId) (w : Option SlotWork) : (s.setSlot k w).st = s.st := rfl
@[simp] theorem State.setSlot_re (s : State) (k : SlotId) (w : Option SlotWork) : (s.setSlot k w).re = s.re := rfl
@[simp] theorem State.setSlot_ft (s : State) (k : SlotId) (w : Option SlotWork) : (s.setSlot k w).ft = s.ft := rfl
@[simp] theorem State.setSlot_lm (s : State) (k : SlotId) (w : Option SlotWork) : (s.setSlot k w).lm = s.lm := rfl
@[simp] theorem State.setSlot_cp (s : State) (k : SlotId) (w : Option SlotWork) : (s.setSlot k w).cp = s.cp := rfl
@[simp] theorem State.setSlot_emitted (s : State) (k : SlotId) (w : Option SlotWork) : (s.setSlot k w).emitted = s.emitted := rfl
@[simp] theorem State.setSlot_pending (s : State) (k : SlotId) (w : Option SlotWork) : (s.setSlot k w).pending = s.pending := rfl

/-! ### emit -/

@[simp] theorem State.emit_hau (s : State) (e : Emission) : (s.emit e).hau = s.hau := rfl
@[simp] theorem State.emit_rp (s : State) (e : Emission) : (s.emit e).rp = s.rp := rfl
@[simp] theorem State.emit_st (s : State) (e : Emission) : (s.emit e).st = s.st := rfl
@[simp] theorem State.emit_te (s : State) (e : Emission) : (s.emit e).te = s.te := rfl
@[simp] theorem State.emit_re (s : State) (e : Emission) : (s.emit e).re = s.re := rfl
@[simp] theorem State.emit_ft (s : State) (e : Emission) : (s.emit e).ft = s.ft := rfl
@[simp] theorem State.emit_lm (s : State) (e : Emission) : (s.emit e).lm = s.lm := rfl
@[simp] theorem State.emit_cp (s : State) (e : Emission) : (s.emit e).cp = s.cp := rfl
@[simp] theorem State.emit_pending (s : State) (e : Emission) : (s.emit e).pending = s.pending := rfl

/-! ### The other fields of a changed block -/

@[simp] theorem State.setTxs_te_slots (s : State) (i : StreamId) (r : TxStream) : (s.setTxs i r).te.slots = s.te.slots := rfl
@[simp] theorem State.setTxs_te_slicerPointer (s : State) (i : StreamId) (r : TxStream) : (s.setTxs i r).te.slicerPointer = s.te.slicerPointer := rfl
@[simp] theorem State.setTxs_te_offerPointer (s : State) (i : StreamId) (r : TxStream) : (s.setTxs i r).te.offerPointer = s.te.offerPointer := rfl
@[simp] theorem State.setTxs_te_readPointer (s : State) (i : StreamId) (r : TxStream) : (s.setTxs i r).te.readPointer = s.te.readPointer := rfl
@[simp] theorem State.setTxs_te_nextOccupation (s : State) (i : StreamId) (r : TxStream) : (s.setTxs i r).te.nextOccupation = s.te.nextOccupation := rfl
@[simp] theorem State.setSlot_te_tx (s : State) (k : SlotId) (w : Option SlotWork) : (s.setSlot k w).te.tx = s.te.tx := rfl
@[simp] theorem State.setSlot_te_slicerPointer (s : State) (k : SlotId) (w : Option SlotWork) : (s.setSlot k w).te.slicerPointer = s.te.slicerPointer := rfl
@[simp] theorem State.setSlot_te_offerPointer (s : State) (k : SlotId) (w : Option SlotWork) : (s.setSlot k w).te.offerPointer = s.te.offerPointer := rfl
@[simp] theorem State.setSlot_te_readPointer (s : State) (k : SlotId) (w : Option SlotWork) : (s.setSlot k w).te.readPointer = s.te.readPointer := rfl
@[simp] theorem State.setSlot_te_nextOccupation (s : State) (k : SlotId) (w : Option SlotWork) : (s.setSlot k w).te.nextOccupation = s.te.nextOccupation := rfl
@[simp] theorem State.setRxs_re_contexts (s : State) (i : StreamId) (r : RxStream) : (s.setRxs i r).re.contexts = s.re.contexts := rfl
@[simp] theorem State.setRxs_re_nextOccupancy (s : State) (i : StreamId) (r : RxStream) : (s.setRxs i r).re.nextOccupancy = s.re.nextOccupancy := rfl
@[simp] theorem State.setLane_lm_partnerEpoch (s : State) (l : LaneId) (r : Lane) : (s.setLane l r).lm.partnerEpoch = s.lm.partnerEpoch := rfl
@[simp] theorem State.setLane_lm_linkState (s : State) (l : LaneId) (r : Lane) : (s.setLane l r).lm.linkState = s.lm.linkState := rfl
@[simp] theorem State.setLane_lm_roleClash (s : State) (l : LaneId) (r : Lane) : (s.setLane l r).lm.roleClash = s.lm.roleClash := rfl
@[simp] theorem State.setLane_lm_noticeQueue (s : State) (l : LaneId) (r : Lane) : (s.setLane l r).lm.noticeQueue = s.lm.noticeQueue := rfl
@[simp] theorem State.setLane_lm_lanePointer (s : State) (l : LaneId) (r : Lane) : (s.setLane l r).lm.lanePointer = s.lm.lanePointer := rfl
@[simp] theorem State.setLane_lm_linkEvent (s : State) (l : LaneId) (r : Lane) : (s.setLane l r).lm.linkEvent = s.lm.linkEvent := rfl
@[simp] theorem State.emit_emitted (s : State) (e : Emission) : (s.emit e).emitted = e :: s.emitted := rfl

/-! ### Reading by number -/

@[simp] theorem State.setStream_txs (s : State) (i : StreamId) (r : StreamRecord) (j : StreamId) : (s.setStream i r).txs j = s.txs j := rfl
@[simp] theorem State.setStream_rxs (s : State) (i : StreamId) (r : StreamRecord) (j : StreamId) : (s.setStream i r).rxs j = s.rxs j := rfl
@[simp] theorem State.setStream_lane (s : State) (i : StreamId) (r : StreamRecord) (j : LaneId) : (s.setStream i r).lane j = s.lane j := rfl
@[simp] theorem State.setStream_slot (s : State) (i : StreamId) (r : StreamRecord) (j : SlotId) : (s.setStream i r).slot j = s.slot j := rfl
@[simp] theorem State.setStream_stream_self (s : State) (i : StreamId) (r : StreamRecord) : (s.setStream i r).stream i = r := by
  simp [State.setStream, State.stream]
theorem State.setStream_stream_ne (s : State) (i : StreamId) (r : StreamRecord) (j : StreamId) (h : j ≠ i) :
    (s.setStream i r).stream j = s.stream j := by
  simp only [State.setStream, State.stream, Fin.getElem_fin]
  exact Vector.getElem_set_ne _ _ fun e => h (Fin.ext e.symm)
@[simp] theorem State.setStream_twice (s : State) (i : StreamId) (r : StreamRecord) (r' : StreamRecord) :
    (s.setStream i r).setStream i r' = s.setStream i r' := by
  simp [State.setStream]
@[simp] theorem State.setStream_same (s : State) (i : StreamId) : s.setStream i (s.stream i) = s := by
  simp [State.setStream, State.stream]

@[simp] theorem State.setTxs_stream (s : State) (i : StreamId) (r : TxStream) (j : StreamId) : (s.setTxs i r).stream j = s.stream j := rfl
@[simp] theorem State.setTxs_rxs (s : State) (i : StreamId) (r : TxStream) (j : StreamId) : (s.setTxs i r).rxs j = s.rxs j := rfl
@[simp] theorem State.setTxs_lane (s : State) (i : StreamId) (r : TxStream) (j : LaneId) : (s.setTxs i r).lane j = s.lane j := rfl
@[simp] theorem State.setTxs_slot (s : State) (i : StreamId) (r : TxStream) (j : SlotId) : (s.setTxs i r).slot j = s.slot j := rfl
@[simp] theorem State.setTxs_txs_self (s : State) (i : StreamId) (r : TxStream) : (s.setTxs i r).txs i = r := by
  simp [State.setTxs, State.txs]
theorem State.setTxs_txs_ne (s : State) (i : StreamId) (r : TxStream) (j : StreamId) (h : j ≠ i) :
    (s.setTxs i r).txs j = s.txs j := by
  simp only [State.setTxs, State.txs, Fin.getElem_fin]
  exact Vector.getElem_set_ne _ _ fun e => h (Fin.ext e.symm)
@[simp] theorem State.setTxs_twice (s : State) (i : StreamId) (r : TxStream) (r' : TxStream) :
    (s.setTxs i r).setTxs i r' = s.setTxs i r' := by
  simp [State.setTxs]
@[simp] theorem State.setTxs_same (s : State) (i : StreamId) : s.setTxs i (s.txs i) = s := by
  simp [State.setTxs, State.txs]

@[simp] theorem State.setRxs_stream (s : State) (i : StreamId) (r : RxStream) (j : StreamId) : (s.setRxs i r).stream j = s.stream j := rfl
@[simp] theorem State.setRxs_txs (s : State) (i : StreamId) (r : RxStream) (j : StreamId) : (s.setRxs i r).txs j = s.txs j := rfl
@[simp] theorem State.setRxs_lane (s : State) (i : StreamId) (r : RxStream) (j : LaneId) : (s.setRxs i r).lane j = s.lane j := rfl
@[simp] theorem State.setRxs_slot (s : State) (i : StreamId) (r : RxStream) (j : SlotId) : (s.setRxs i r).slot j = s.slot j := rfl
@[simp] theorem State.setRxs_rxs_self (s : State) (i : StreamId) (r : RxStream) : (s.setRxs i r).rxs i = r := by
  simp [State.setRxs, State.rxs]
theorem State.setRxs_rxs_ne (s : State) (i : StreamId) (r : RxStream) (j : StreamId) (h : j ≠ i) :
    (s.setRxs i r).rxs j = s.rxs j := by
  simp only [State.setRxs, State.rxs, Fin.getElem_fin]
  exact Vector.getElem_set_ne _ _ fun e => h (Fin.ext e.symm)
@[simp] theorem State.setRxs_twice (s : State) (i : StreamId) (r : RxStream) (r' : RxStream) :
    (s.setRxs i r).setRxs i r' = s.setRxs i r' := by
  simp [State.setRxs]
@[simp] theorem State.setRxs_same (s : State) (i : StreamId) : s.setRxs i (s.rxs i) = s := by
  simp [State.setRxs, State.rxs]

@[simp] theorem State.setLane_stream (s : State) (l : LaneId) (r : Lane) (j : StreamId) : (s.setLane l r).stream j = s.stream j := rfl
@[simp] theorem State.setLane_txs (s : State) (l : LaneId) (r : Lane) (j : StreamId) : (s.setLane l r).txs j = s.txs j := rfl
@[simp] theorem State.setLane_rxs (s : State) (l : LaneId) (r : Lane) (j : StreamId) : (s.setLane l r).rxs j = s.rxs j := rfl
@[simp] theorem State.setLane_slot (s : State) (l : LaneId) (r : Lane) (j : SlotId) : (s.setLane l r).slot j = s.slot j := rfl
@[simp] theorem State.setLane_lane_self (s : State) (l : LaneId) (r : Lane) : (s.setLane l r).lane l = r := by
  simp [State.setLane, State.lane]
theorem State.setLane_lane_ne (s : State) (l : LaneId) (r : Lane) (j : LaneId) (h : j ≠ l) :
    (s.setLane l r).lane j = s.lane j := by
  simp only [State.setLane, State.lane, Fin.getElem_fin]
  exact Vector.getElem_set_ne _ _ fun e => h (Fin.ext e.symm)
@[simp] theorem State.setLane_twice (s : State) (l : LaneId) (r : Lane) (r' : Lane) :
    (s.setLane l r).setLane l r' = s.setLane l r' := by
  simp [State.setLane]
@[simp] theorem State.setLane_same (s : State) (l : LaneId) : s.setLane l (s.lane l) = s := by
  simp [State.setLane, State.lane]

@[simp] theorem State.setSlot_stream (s : State) (k : SlotId) (w : Option SlotWork) (j : StreamId) : (s.setSlot k w).stream j = s.stream j := rfl
@[simp] theorem State.setSlot_txs (s : State) (k : SlotId) (w : Option SlotWork) (j : StreamId) : (s.setSlot k w).txs j = s.txs j := rfl
@[simp] theorem State.setSlot_rxs (s : State) (k : SlotId) (w : Option SlotWork) (j : StreamId) : (s.setSlot k w).rxs j = s.rxs j := rfl
@[simp] theorem State.setSlot_lane (s : State) (k : SlotId) (w : Option SlotWork) (j : LaneId) : (s.setSlot k w).lane j = s.lane j := rfl
@[simp] theorem State.setSlot_slot_self (s : State) (k : SlotId) (w : Option SlotWork) : (s.setSlot k w).slot k = w := by
  simp [State.setSlot, State.slot]
theorem State.setSlot_slot_ne (s : State) (k : SlotId) (w : Option SlotWork) (j : SlotId) (h : j ≠ k) :
    (s.setSlot k w).slot j = s.slot j := by
  simp only [State.setSlot, State.slot, Fin.getElem_fin]
  exact Vector.getElem_set_ne _ _ fun e => h (Fin.ext e.symm)
@[simp] theorem State.setSlot_twice (s : State) (k : SlotId) (w : Option SlotWork) (w' : Option SlotWork) :
    (s.setSlot k w).setSlot k w' = s.setSlot k w' := by
  simp [State.setSlot]
@[simp] theorem State.setSlot_same (s : State) (k : SlotId) : s.setSlot k (s.slot k) = s := by
  simp [State.setSlot, State.slot]

@[simp] theorem State.emit_stream (s : State) (e : Emission) (j : StreamId) : (s.emit e).stream j = s.stream j := rfl
@[simp] theorem State.emit_txs (s : State) (e : Emission) (j : StreamId) : (s.emit e).txs j = s.txs j := rfl
@[simp] theorem State.emit_rxs (s : State) (e : Emission) (j : StreamId) : (s.emit e).rxs j = s.rxs j := rfl
@[simp] theorem State.emit_lane (s : State) (e : Emission) (j : LaneId) : (s.emit e).lane j = s.lane j := rfl
@[simp] theorem State.emit_slot (s : State) (e : Emission) (j : SlotId) : (s.emit e).slot j = s.slot j := rfl

end Sys2Proof.Machine
end

