-- ==== Sys2Proof/Laws/Posting.lean ====
section
/-! SUPPORT. Posting and retirement: one lemma per shared operation that says everything it does, by the closed
forms of Sys2Proof/Safety.lean. -/

namespace Sys2Proof.Machine

/-- Posting an unsolicited record is the closed form of R158. -/
theorem State.postRecord_eq (c : Completion) (s : State) : s.postRecord c = s.withGranted c := by
  obtain ⟨⟨eng, en, ie, hc, fa, rq, cq, tr, fo, wq, owed⟩, rp, st, te, re, ft, lm, cp, em, pe⟩ := s
  by_cases hu : 0 < cp.unconsumed <;> by_cases hh : eng = .halted <;> cases ie <;>
    simp [postRecord, withGranted, judgeInterrupt, interruptCondition, oweInterrupt, owedByPosting,
      unwrittenRecords, CompletionPoster.append, cqSize, Ring.size, cqAddress, Config.completionBytes, hu, hh,
      Nat.add_right_comm] <;> rfl

/-- Posting a reserved completion is the closed form of R158 and R160. -/
theorem State.postReserved_eq (c : Completion) (s : State) : s.postReserved c = s.withPosted [c] := by
  rw [postReserved, postRecord_eq]
  rfl

@[simp] theorem State.withPosted_nil (s : State) : s.withPosted [] = s := rfl

theorem CompletionPoster.foldl_unconsumed (ring : Ring) (cs : List Completion) (cp : CompletionPoster) :
    (cs.foldl (CompletionPoster.append ring) cp).unconsumed = cp.unconsumed + cs.length := by
  induction cs generalizing cp with
  | nil => rfl
  | cons c cs ih => simp [List.foldl_cons, ih, CompletionPoster.append]; omega

/-- Posting one list of completions after another posts both (R158). -/
theorem State.withPosted_append (a b : List Completion) (s : State) :
    (s.withPosted a).withPosted b = s.withPosted (a ++ b) := by
  by_cases ha : a = []
  · simp [ha]
  by_cases hb : b = []
  · simp [hb]
  have hl : 0 < a.length := List.length_pos_iff.mpr ha
  have hu : 0 < s.cp.unconsumed + a.length := by omega
  by_cases hi : s.hau.intEnable <;>
    simp [withPosted, ha, hb, owedByPosting, CompletionPoster.foldl_unconsumed, hu, hi]

/-- What posting leaves alone. -/
theorem State.withPosted_frame (cs : List Completion) (s : State) :
    s.withPosted cs = { s with cp := (s.withPosted cs).cp, hau := (s.withPosted cs).hau } ∧
      (s.withPosted cs).hau = { s.hau with interruptOwed := (s.withPosted cs).hau.interruptOwed } := by
  unfold withPosted; split <;> simp

section
variable (cs : List Completion) (s : State)
@[simp] theorem State.withPosted_rp : (s.withPosted cs).rp = s.rp := by unfold withPosted; split <;> rfl
@[simp] theorem State.withPosted_st : (s.withPosted cs).st = s.st := by unfold withPosted; split <;> rfl
@[simp] theorem State.withPosted_te : (s.withPosted cs).te = s.te := by unfold withPosted; split <;> rfl
@[simp] theorem State.withPosted_re : (s.withPosted cs).re = s.re := by unfold withPosted; split <;> rfl
@[simp] theorem State.withPosted_ft : (s.withPosted cs).ft = s.ft := by unfold withPosted; split <;> rfl
@[simp] theorem State.withPosted_lm : (s.withPosted cs).lm = s.lm := by unfold withPosted; split <;> rfl
@[simp] theorem State.withPosted_emitted : (s.withPosted cs).emitted = s.emitted := by
  unfold withPosted; split <;> rfl
@[simp] theorem State.withPosted_pending : (s.withPosted cs).pending = s.pending := by
  unfold withPosted; split <;> rfl
@[simp] theorem State.withPosted_stream (i : StreamId) : (s.withPosted cs).stream i = s.stream i := by
  simp [stream]
@[simp] theorem State.withPosted_txs (i : StreamId) : (s.withPosted cs).txs i = s.txs i := by simp [txs]
@[simp] theorem State.withPosted_rxs (i : StreamId) : (s.withPosted cs).rxs i = s.rxs i := by simp [rxs]
@[simp] theorem State.withPosted_engine : (s.withPosted cs).hau.engine = s.hau.engine := by
  unfold withPosted; split <;> rfl
@[simp] theorem State.withPosted_isHalted : (s.withPosted cs).isHalted = s.isHalted := by simp [isHalted]
end

/-! ### Posting commutes with changes it does not read -/

theorem State.setStream_withPosted (i : StreamId) (r : StreamRecord) (cs : List Completion) (s : State) :
    (s.withPosted cs).setStream i r = (s.setStream i r).withPosted cs := by
  unfold withPosted; split <;> rfl

theorem State.setTxs_withPosted (i : StreamId) (r : TxStream) (cs : List Completion) (s : State) :
    (s.withPosted cs).setTxs i r = (s.setTxs i r).withPosted cs := by
  unfold withPosted; split <;> rfl

theorem State.setRxs_withPosted (i : StreamId) (r : RxStream) (cs : List Completion) (s : State) :
    (s.withPosted cs).setRxs i r = (s.setRxs i r).withPosted cs := by
  unfold withPosted; split <;> rfl

theorem State.re_withPosted (re : ReceiveEngine) (cs : List Completion) (s : State) :
    { s.withPosted cs with re := re } = State.withPosted cs { s with re := re } := by
  unfold withPosted; split <;> rfl

theorem State.ft_withPosted (ft : List FenceRecord) (cs : List Completion) (s : State) :
    { s.withPosted cs with ft := ft } = State.withPosted cs { s with ft := ft } := by
  unfold withPosted; split <;> rfl

/-! ### Retirement -/

theorem FenceRecord.count_settled_of_zero {i : StreamId} {f : Bool} {r : FenceRecord}
    (h : ¬0 < r.remaining[i]) : r.count i f = r := by
  rw [FenceRecord.count, if_neg h]

/-- A fence that still awaits something completes exactly when the retirement settles it (R101). -/
theorem FenceRecord.completesAt_iff {i : StreamId} {f : Bool} {r : FenceRecord} (hr : r.settled = false) :
    r.completesAt i f = (r.count i f).settled := by
  by_cases h : 0 < r.remaining[i]
  · simp only [FenceRecord.completesAt, decide_eq_true h, Bool.true_and]
  · simp only [FenceRecord.completesAt, decide_eq_false h, Bool.false_and, count_settled_of_zero h, hr]

/-- Posting the REQUEST_DONEs of completed fences, one after another (R101). -/
theorem State.postFences_eq (rs : List FenceRecord) (s : State) :
    rs.foldl (fun s r => s.postFence r.tag r.scope .success r.failures r.awaited) s =
      s.withPosted (rs.map fenceDone) := by
  induction rs generalizing s with
  | nil => rfl
  | cons r rs ih =>
    rw [List.foldl_cons, ih, postFence, postReserved_eq, withPosted_append]
    rfl

theorem fences_split (p q : FenceRecord → Bool) (f : FenceRecord → FenceRecord) (ft : List FenceRecord)
    (h : ∀ r ∈ ft, p r = q (f r)) : (ft.filter p).map f = (ft.map f).filter q := by
  induction ft with
  | nil => rfl
  | cons r ft ih =>
    have hr := h r (by simp)
    have ih := ih fun x hx => h x (by simp [hx])
    by_cases hp : p r = true
    · simp [hp, ← hr, ih]
    · simp [hp, ← hr, ih]

/-- The Fence Table's whole answer to one retirement (R100, R101). -/
theorem State.reportRetirement_eq (i : StreamId) (e : SendEntry) (s : State) (h : FencesUnsettled s) :
    s.reportRetirement i (decide (e.status ≠ .success)) =
      State.withPosted ((fencesDone i e s.ft).map fenceDone) { s with ft := fencesLeft i e s.ft } := by
  simp only [reportRetirement, postFences_eq]
  rw [fences_split _ FenceRecord.settled _ s.ft fun r hr => FenceRecord.completesAt_iff (h r hr),
    fences_split _ (fun r => !r.settled) _ s.ft fun r hr => by rw [FenceRecord.completesAt_iff (h r hr)]]
  rfl

theorem fencesLeft_unsettled (i : StreamId) (e : SendEntry) (ft : List FenceRecord) :
    ∀ r ∈ fencesLeft i e ft, r.settled = false := by
  intro r hr
  simp only [fencesLeft, List.mem_filter] at hr
  simpa using hr.2

theorem State.retireEntry_eq (i : StreamId) (e : SendEntry) (s : State) (h : FencesUnsettled s) :
    s.retireEntry i e = State.withPosted (sendDone i e :: (fencesDone i e s.ft).map fenceDone)
      { s with ft := fencesLeft i e s.ft } := by
  rw [retireEntry, postDone, postReserved_eq, reportRetirement_eq _ _ _ (by simpa [FencesUnsettled] using h)]
  simp only [withPosted_ft, ft_withPosted, withPosted_append]
  rfl

/-- The retirement of a list of entries (R47, R49, R100, R101). -/
theorem State.retireAll_eq (i : StreamId) (es : List SendEntry) (s : State) (h : FencesUnsettled s) :
    s.retireAll i es = s.withRetired i es := by
  induction es generalizing s with
  | nil => simp [retireAll, withRetired, fencesAfter, retirePosts]
  | cons e es ih =>
    have hl : FencesUnsettled (State.withPosted (sendDone i e :: (fencesDone i e s.ft).map fenceDone)
        { s with ft := fencesLeft i e s.ft }) := by
      simpa [FencesUnsettled] using fencesLeft_unsettled i e s.ft
    have hc : s.retireAll i (e :: es) = (s.retireEntry i e).retireAll i es := rfl
    rw [hc, retireEntry_eq _ _ _ h, ih _ hl]
    simp only [withRetired, withPosted_ft, ft_withPosted, withPosted_append, fencesAfter, retirePosts]

/-- Failing a whole list: slots freed, list emptied, entries failed and retired (R49). -/
theorem State.failList_eq (i : StreamId) (cause : ListFailure) (s : State) (h : FencesUnsettled s) :
    s.failList i cause = State.withRetired i ((s.txs i).list.map (SendEntry.fail cause))
      ((s.freeSlotsOfStream i).setList i []) :=
  retireAll_eq _ _ _ h

/-- Retirement at the head of a list (R46, R47). -/
theorem State.retireHeads_eq (i : StreamId) (s : State) (h : FencesUnsettled s) :
    s.retireHeads i = State.withRetired i ((s.txs i).list.takeWhile SendEntry.finished)
      (s.setList i ((s.txs i).list.dropWhile SendEntry.finished)) :=
  retireAll_eq _ _ _ h

end Sys2Proof.Machine
end

