-- ==== Sys2Proof/Laws/Ending.lean ====
section
/-! SUPPORT. The end of a stream: entering RELEASING, the flush with the release of the buffer list, and the
fault of an OPEN stream, by the closed forms of Sys2Proof/Safety.lean. -/

namespace Sys2Proof.Machine

/-- Finishing the pending CLOSEs, one after another (R18). -/
theorem State.postCloses_eq (i : StreamId) (cause : ReleaseCause) (pend : List (Tag × CloseMode)) (s : State) :
    pend.foldl (fun s p => s.postDone .closeStream i p.1 cause.status (.closeDone p.2)) s =
      s.withPosted (closesDone i pend cause) := by
  induction pend generalizing s with
  | nil => rfl
  | cons p ps ih =>
    rw [List.foldl_cons, ih, postDone, postReserved_eq, withPosted_append]
    rfl

/-- Everything an entry to RELEASING does (R18). -/
theorem State.enterReleasing_eq (i : StreamId) (cause : ReleaseCause) (s : State) :
    s.enterReleasing i cause =
      if (s.rxs i).releaseList = [] then
        (s.setStream i { s.stream i with state := .closed, releaseCause := cause, closePending := [] }).withPosted
          (closesDone i (s.stream i).closePending cause)
      else s.setStream i { s.stream i with state := .releasing, releaseCause := cause } := by
  by_cases h : (s.rxs i).releaseList = []
  · simp only [enterReleasing, closeIfReleased, setStream_stream_self, setStream_rxs, h, and_self, if_true,
      becomeClosed, setStream_twice]
    exact postCloses_eq i cause _ _
  · simp [enterReleasing, closeIfReleased, h]

/-- Flush, release of the buffer list and entry to RELEASING, whatever reason the flush has (R14, R15, R20). -/
theorem State.flushReleaseEnter_eq (i : StreamId) (reason : ReturnReason) (cause : ReleaseCause) (s : State)
    (hl : (s.txs i).list = []) :
    ((s.flush i reason).releaseBuffers i).enterReleasing i cause =
      s.ended i [] [] (s.flushed i reason) (s.stream i).closePending cause := by
  rw [enterReleasing_eq]
  have hs : ((s.flush i reason).releaseBuffers i).stream i = s.stream i := rfl
  have hr : (((s.flush i reason).releaseBuffers i).rxs i) = { s.rxs i with
      bufferList := []
      releaseList := (s.rxs i).releaseList ++ (s.flushed i reason ++ s.listReturned i) } := by
    simp [releaseBuffers, flush, appendRelease, flushed, listReturned, stream, List.append_assoc]
    exact ⟨rfl, rfl, rfl, rfl⟩
  have ht : s.setTxs i { s.txs i with list := [] } = s := by
    have : ({ s.txs i with list := [] } : TxStream) = s.txs i := by rw [← hl]
    rw [this, setTxs_same]
  have hst : ∀ x : StreamRecord, ((s.flush i reason).releaseBuffers i).setStream i x =
      (State.setRxs { s with re.contexts := s.re.contexts.filter fun c => decide (c.stream ≠ i) } i
        { s.rxs i with
          bufferList := []
          releaseList := (s.rxs i).releaseList ++ (s.flushed i reason ++ s.listReturned i) }).setStream i x := by
    intro x
    rw [← hr]
    simp [releaseBuffers, flush, appendRelease, setRxs, setStream, rxs]
  simp only [hs, hr, hst]
  by_cases h : (s.rxs i).releaseList ++ (s.flushed i reason ++ s.listReturned i) = []
  · simp only [h, if_true, ended, decide_true, emptied, ht, retirePosts, fencesAfter, List.append_nil,
      List.nil_append]
    simp [setRxs, setStream, rxs]
  · simp only [h, if_false, ended, decide_false, emptied, ht, retirePosts, fencesAfter, List.append_nil,
      Bool.false_eq_true]
    simp [setRxs, setStream, rxs]

end Sys2Proof.Machine
end

