-- ==== Sys2Proof/Laws/Taking.lean ====
section
/-! SUPPORT. Taking a record: what the completion of the record read comes to, and what the state in which a
record is processed shares with the state before. -/

namespace Sys2Proof.Machine

section
variable (s : State) (q : ReadEntry)
@[simp] theorem State.recordTaken_st : (s.recordTaken q).st = s.st := rfl
@[simp] theorem State.recordTaken_te : (s.recordTaken q).te = s.te := rfl
@[simp] theorem State.recordTaken_re : (s.recordTaken q).re = s.re := rfl
@[simp] theorem State.recordTaken_ft : (s.recordTaken q).ft = s.ft := rfl
@[simp] theorem State.recordTaken_lm : (s.recordTaken q).lm = s.lm := rfl
@[simp] theorem State.recordTaken_cp : (s.recordTaken q).cp = s.cp := rfl
@[simp] theorem State.recordTaken_emitted : (s.recordTaken q).emitted = s.emitted := rfl
@[simp] theorem State.recordTaken_pending : (s.recordTaken q).pending = s.pending := rfl
@[simp] theorem State.recordTaken_config : (s.recordTaken q).rp.config = s.rp.config := rfl
@[simp] theorem State.recordTaken_engine : (s.recordTaken q).hau.engine = s.hau.engine := rfl
@[simp] theorem State.recordTaken_stream (i : StreamId) : (s.recordTaken q).stream i = s.stream i := rfl
@[simp] theorem State.recordTaken_txs (i : StreamId) : (s.recordTaken q).txs i = s.txs i := rfl
@[simp] theorem State.recordTaken_rxs (i : StreamId) : (s.recordTaken q).rxs i = s.rxs i := rfl
@[simp] theorem State.recordTaken_lane (l : LaneId) : (s.recordTaken q).lane l = s.lane l := rfl
@[simp] theorem State.recordTaken_slot (k : SlotId) : (s.recordTaken q).slot k = s.slot k := rfl
end

/-- The completion of the outstanding record read takes the record and processes it (R140). -/
theorem State.completeRecordRead_eq {s : State} {q : ReadEntry} (h : AwaitsRecord s q) (r : RequestRecord) :
    s.completeRecordRead r = (s.recordTaken q).processRecord r := by
  obtain ⟨h1, h2, h3⟩ := h
  simp only [completeRecordRead, h1, recordReturned, isHalted, dropRead, h2, h3, advanceRing, recordTaken,
    rqSize, Ring.size, decide_false, Bool.false_eq_true, if_false]

/-- A stream number is the stream of its own byte (R193). -/
@[simp] theorem streamOf_streamByte (i : StreamId) : streamOf (streamByte i) = some i := by
  revert i; decide

end Sys2Proof.Machine
end

