-- ==== Sys2Proof/Laws/Hearing.lean ====
section
/-! SUPPORT. What the reception of a unit comes to, the judgement of the link state, the production of a notice,
and the identifier of a new read. -/

namespace Sys2Proof.Machine

/-! ### Notices -/

section
variable (n : Notice) (s : State)
@[simp] theorem State.produceNotice_hau : (s.produceNotice n).hau = s.hau := by unfold produceNotice; split <;> rfl
@[simp] theorem State.produceNotice_rp : (s.produceNotice n).rp = s.rp := by unfold produceNotice; split <;> rfl
@[simp] theorem State.produceNotice_st : (s.produceNotice n).st = s.st := by unfold produceNotice; split <;> rfl
@[simp] theorem State.produceNotice_te : (s.produceNotice n).te = s.te := by unfold produceNotice; split <;> rfl
@[simp] theorem State.produceNotice_re : (s.produceNotice n).re = s.re := by unfold produceNotice; split <;> rfl
@[simp] theorem State.produceNotice_ft : (s.produceNotice n).ft = s.ft := by unfold produceNotice; split <;> rfl
@[simp] theorem State.produceNotice_cp : (s.produceNotice n).cp = s.cp := by unfold produceNotice; split <;> rfl
@[simp] theorem State.produceNotice_emitted : (s.produceNotice n).emitted = s.emitted := by
  unfold produceNotice; split <;> rfl
@[simp] theorem State.produceNotice_pending : (s.produceNotice n).pending = s.pending := by
  unfold produceNotice; split <;> rfl
@[simp] theorem State.produceNotice_stream (i : StreamId) : (s.produceNotice n).stream i = s.stream i := by
  simp [stream]
@[simp] theorem State.produceNotice_txs (i : StreamId) : (s.produceNotice n).txs i = s.txs i := by simp [txs]
@[simp] theorem State.produceNotice_rxs (i : StreamId) : (s.produceNotice n).rxs i = s.rxs i := by simp [rxs]
/-- Producing a notice changes the notice queue alone, which grows by it at most (R125). -/
theorem State.produceNotice_lm : (s.produceNotice n).lm = { s.lm with
    noticeQueue := s.lm.noticeQueue ++
      if s.lm.linkState = .up ∧ s.lm.noticeQueue.length < 32 then [n] else [] } := by
  by_cases h : s.lm.linkState = .up ∧ s.lm.noticeQueue.length < 32 <;>
    simp [produceNotice, Config.noticeQueueLimit, h]
end

theorem State.setStream_produceNotice (i : StreamId) (r : StreamRecord) (n : Notice) (s : State) :
    (s.produceNotice n).setStream i r = (s.setStream i r).produceNotice n := by
  by_cases h : s.lm.linkState = .up ∧ s.lm.noticeQueue.length < Config.noticeQueueLimit
  · simp only [produceNotice, setStream_lm, h, and_self, if_true]
    rfl
  · simp only [produceNotice, setStream_lm, h, if_false]

/-! ### Reception -/

section
variable (s : State) (l : LaneId)
@[simp] theorem State.heard_hau : (s.heard l).hau = s.hau := rfl
@[simp] theorem State.heard_rp : (s.heard l).rp = s.rp := rfl
@[simp] theorem State.heard_st : (s.heard l).st = s.st := rfl
@[simp] theorem State.heard_te : (s.heard l).te = s.te := rfl
@[simp] theorem State.heard_re : (s.heard l).re = s.re := rfl
@[simp] theorem State.heard_ft : (s.heard l).ft = s.ft := rfl
@[simp] theorem State.heard_cp : (s.heard l).cp = s.cp := rfl
@[simp] theorem State.heard_stream (i : StreamId) : (s.heard l).stream i = s.stream i := rfl
@[simp] theorem State.heard_txs (i : StreamId) : (s.heard l).txs i = s.txs i := rfl
@[simp] theorem State.heard_rxs (i : StreamId) : (s.heard l).rxs i = s.rxs i := rfl
end

/-- An UP lane passes a good unit on (R113). -/
theorem State.hearUnit_up {s : State} {l : LaneId} (h : HearsUp s l) (act : State → State) :
    s.hearUnit l act = act (s.heard l) := by
  obtain ⟨h1, h2⟩ := h
  simp [hearUnit, isHalted, h1, h2, heard, Lane.hearGood, Config.silenceLimit]

/-- While the engine is HALTED a reception changes nothing (R131). -/
theorem State.hearUnit_halted {s : State} (h : s.hau.engine = .halted) (l : LaneId) (act : State → State) :
    s.hearUnit l act = s := by simp [hearUnit, isHalted, h]

/-! ### The link state -/

theorem State.anyLaneUp_iff (s : State) : s.anyLaneUp = true ↔ ∃ l, (s.lane l).state = .up := by
  unfold anyLaneUp lane
  rw [List.any_eq_true]
  constructor
  · rintro ⟨x, hx, h⟩
    obtain ⟨i, hi, rfl⟩ := List.getElem_of_mem hx
    simp only [Vector.length_toList] at hi
    exact ⟨⟨i, hi⟩, by simpa using h⟩
  · rintro ⟨l, h⟩
    exact ⟨_, List.getElem_mem (l := s.lm.lanes.toList) (n := l.val) (by simp), by simpa using h⟩

/-- The judgement leaves the link UP exactly while a lane is UP (R123). -/
theorem State.judgeLink_agrees (s : State) : LinkAgrees s.judgeLink := by
  unfold judgeLink LinkAgrees
  split
  · next h h' =>
    unfold transmitLinkUp recordLinkChange
    split <;> simpa [anyLaneUp] using h
  · next h h' => simpa [transmitLinkDown, recordLinkChange, anyLaneUp] using h
  · next h1 h2 =>
    cases hu : s.anyLaneUp <;> cases hl : s.lm.linkState <;> simp_all

/-- Where the link state already agrees with the lanes, the judgement changes nothing (R123). -/
theorem State.judgeLink_same {s : State} (h : LinkAgrees s) : s.judgeLink = s := by
  unfold judgeLink
  unfold LinkAgrees at h
  split
  · next h1 h2 => simp [h1, h2] at h
  · next h1 h2 => simp [h1, h2] at h
  · rfl

/-- A lane enters SEEKING as the closed form of Sys2Proof/Safety.lean has it (R114, R118). -/
theorem Lane.toSeeking_eq (r : Lane) : r.toSeeking = r.seekingFrom := by
  unfold toSeeking leave seekingFrom
  split <;> simp_all

/-- A lane last seen as `r` has returned to SEEKING and the link state is judged: the closed form of
Sys2Proof/Safety.lean (R115 to R118, R123). -/
theorem State.judgeLink_seeking {s : State} (h : LinkAgrees s) (l : LaneId) (r : Lane) :
    (s.setLane l r.seekingFrom).judgeLink = s.laneLost l r := by
  have hl : (s.setLane l r.seekingFrom).anyLaneUp = true ↔ ∃ k, k ≠ l ∧ (s.lane k).state = .up := by
    rw [anyLaneUp_iff]
    constructor
    · rintro ⟨k, hk⟩
      by_cases e : k = l
      · subst e; rw [setLane_lane_self] at hk; cases hk
      · exact ⟨k, e, by rwa [setLane_lane_ne _ _ _ _ e] at hk⟩
    · rintro ⟨k, e, hk⟩
      exact ⟨k, by rwa [setLane_lane_ne _ _ _ _ e]⟩
  by_cases hc : (s.lane l).state = .up ∧ ∀ k, k ≠ l → (s.lane k).state ≠ .up
  · have h1 : (s.setLane l r.seekingFrom).anyLaneUp = false := by
      rw [Bool.eq_false_iff, Ne, hl]; push Not; exact hc.2
    have h2 : (s.setLane l r.seekingFrom).lm.linkState = .up := h.mpr ((anyLaneUp_iff s).mpr ⟨l, hc.1⟩)
    rw [laneLost, if_pos hc, judgeLink]
    simp only [h1, h2]
    unfold recordLinkChange transmitLinkDown SendEntry.linkDown txs slotWorkOf setLane
    rfl
  · rw [laneLost, if_neg hc]
    refine judgeLink_same ?_
    unfold LinkAgrees at h ⊢
    rw [hl, show (s.setLane l r.seekingFrom).lm.linkState = s.lm.linkState from rfl, h, anyLaneUp_iff]
    refine ⟨fun ⟨k, hk⟩ => ?_, fun ⟨k, _, hk⟩ => ⟨k, hk⟩⟩
    by_contra hn
    push Not at hn
    exact hc ⟨by by_cases e : k = l
                 · exact e ▸ hk
                 · exact absurd hk (hn k e), hn⟩

/-- A lane that is not UP leaves the link as it is (R118, R123). -/
theorem State.laneLost_not_up {s : State} {l : LaneId} (h : (s.lane l).state ≠ .up) (r : Lane) :
    s.laneLost l r = s.setLane l r.seekingFrom := if_neg fun hc => h hc.1

/-- `judgeLink_seeking` for the lane as it stands. -/
theorem State.seekLane_eq {s : State} (h : LinkAgrees s) (l : LaneId) : s.seekLane l = s.laneLost l (s.lane l) := by
  rw [seekLane, Lane.toSeeking_eq, judgeLink_seeking h]

/-- `judgeLink_seeking` for a lane that the same event has changed before. -/
theorem State.seekLane_setLane {s : State} (h : LinkAgrees s) (l : LaneId) (r : Lane) :
    (s.setLane l r).seekLane l = s.laneLost l r := by
  rw [seekLane, setLane_twice, setLane_lane_self, Lane.toSeeking_eq, judgeLink_seeking h]

/-! ### Identifiers of reads -/

/-- A new read's identifier is none that an outstanding or forgotten read holds (R182). -/
theorem State.freshReadId_fresh (s : State) :
    s.freshReadId ∉ s.hau.tracker.map ReadEntry.id ∧ s.freshReadId ∉ s.hau.forgotten := by
  rw [← not_or, ← List.mem_append]
  unfold freshReadId
  generalize s.hau.tracker.map ReadEntry.id ++ s.hau.forgotten = used
  simp only
  by_cases h : used.contains (Config.readIdentifier s.emitted.length) = true
  · rw [if_pos h]
    have hx : ∃ n ∈ List.range (used.length + 1), (!used.contains n) = true := by
      by_contra hc
      push Not at hc
      have hs : List.range (used.length + 1) ⊆ used := fun n hn => by simpa using hc n hn
      have := (List.nodup_range (n := used.length + 1)).subperm hs |>.length_le
      simp at this
    obtain ⟨n, hn⟩ := Option.isSome_iff_exists.mp (List.find?_isSome.mpr hx)
    rw [hn]
    simpa using List.find?_some hn
  · rw [if_neg h]
    simpa using h

end Sys2Proof.Machine
end

