-- ==== Sys2Proof/Laws/Faults.lean ====
section
/-! SUPPORT. Faults, the end of a drain and the retirement at the head of a list, each by the closed forms of
Sys2Proof/Safety.lean. -/

namespace Sys2Proof.Machine

/-! ### Retirement commutes with what it does not read -/

theorem State.flush_withRetired (i j : StreamId) (reason : ReturnReason) (es : List SendEntry) (s : State) :
    (s.withRetired j es).flush i reason = (s.flush i reason).withRetired j es := by
  by_cases h : retirePosts j es s.ft = []
  · have h' : retirePosts j es (s.flush i reason).ft = [] := h
    simp only [withRetired, withPosted, h, h', if_true]
    rfl
  · have h' : retirePosts j es (s.flush i reason).ft ≠ [] := h
    simp only [withRetired, withPosted, h, h', if_false]
    rfl

theorem State.releaseBuffers_withRetired (i j : StreamId) (es : List SendEntry) (s : State) :
    (s.withRetired j es).releaseBuffers i = (s.releaseBuffers i).withRetired j es := by
  by_cases h : retirePosts j es s.ft = []
  · have h' : retirePosts j es (s.releaseBuffers i).ft = [] := h
    simp only [withRetired, withPosted, h, h', if_true]
    rfl
  · have h' : retirePosts j es (s.releaseBuffers i).ft ≠ [] := h
    simp only [withRetired, withPosted, h, h', if_false]
    rfl

theorem State.setStream_withRetired (i j : StreamId) (r : StreamRecord) (es : List SendEntry) (s : State) :
    (s.withRetired j es).setStream i r = (s.setStream i r).withRetired j es := by
  by_cases h : retirePosts j es s.ft = []
  · have h' : retirePosts j es (s.setStream i r).ft = [] := h
    simp only [withRetired, withPosted, h, h', if_true]
    rfl
  · have h' : retirePosts j es (s.setStream i r).ft ≠ [] := h
    simp only [withRetired, withPosted, h, h', if_false]
    rfl

section
variable (i j : StreamId) (es : List SendEntry) (s : State)
@[simp] theorem State.withRetired_stream : (s.withRetired i es).stream j = s.stream j := by simp [withRetired]; rfl
@[simp] theorem State.withRetired_txs : (s.withRetired i es).txs j = s.txs j := by simp [withRetired]; rfl
@[simp] theorem State.withRetired_rxs : (s.withRetired i es).rxs j = s.rxs j := by simp [withRetired]; rfl
@[simp] theorem State.withRetired_ft : (s.withRetired i es).ft = fencesAfter i es s.ft := by simp [withRetired]
end

/-! ### Failing a list does not show the entries' timers -/

theorem sendDone_of_outcome {i : StreamId} {a b : SendEntry} (hm : a.msn = b.msn) (ht : a.tag = b.tag)
    (hs : a.state = b.state) (hr : a.retries = b.retries) (hd : a.defers = b.defers) :
    sendDone i a = sendDone i b := by
  simp [sendDone, SendEntry.status, hm, ht, hs, hr, hd]

theorem fences_of_outcome {i : StreamId} {a b : SendEntry} (hs : a.state = b.state) (ft : List FenceRecord) :
    fencesDone i a ft = fencesDone i b ft ∧ fencesLeft i a ft = fencesLeft i b ft := by
  have h : a.status = b.status := by simp only [SendEntry.status, hs]
  simp only [fencesDone, fencesLeft, h, and_self]

/-- What retirements post and leave depends on the entries' outcomes alone. -/
theorem retire_congr (i : StreamId) (f g : SendEntry → SendEntry) (es : List SendEntry)
    (h : ∀ e, (f e).msn = (g e).msn ∧ (f e).tag = (g e).tag ∧ (f e).state = (g e).state ∧
      (f e).retries = (g e).retries ∧ (f e).defers = (g e).defers) (ft : List FenceRecord) :
    retirePosts i (es.map f) ft = retirePosts i (es.map g) ft ∧
      fencesAfter i (es.map f) ft = fencesAfter i (es.map g) ft := by
  induction es generalizing ft with
  | nil => exact ⟨rfl, rfl⟩
  | cons e es ih =>
    obtain ⟨h1, h2, h3, h4, h5⟩ := h e
    simp only [List.map_cons, retirePosts, fencesAfter, sendDone_of_outcome h1 h2 h3 h4 h5,
      fences_of_outcome (i := i) h3 ft, ih, and_self]

/-- The failed list as the statements write it: an unfinished entry becomes FAILED, a finished one keeps its
outcome (R48, R49). -/
def failedList (cause : ListFailure) (es : List SendEntry) : List SendEntry :=
  es.map fun e => if e.finished then e else { e with state := .failed (cause.status e) }

theorem State.failList_eq' (i : StreamId) (cause : ListFailure) (s : State) (h : FencesUnsettled s) :
    s.failList i cause = State.withRetired i (failedList cause (s.txs i).list)
      ((s.freeSlotsOfStream i).setList i []) := by
  rw [failList_eq _ _ _ h]
  have hc := retire_congr i (SendEntry.fail cause)
    (fun e => if e.finished then e else { e with state := .failed (cause.status e) }) (s.txs i).list
    (fun e => by cases hf : e.finished <;> simp [SendEntry.fail, SendEntry.cancelTimers, ListFailure.status, hf]) s.ft
  have hft : ((s.freeSlotsOfStream i).setList i []).ft = s.ft := rfl
  simp only [withRetired, hft, failedList, hc]

/-! ### Faults -/

theorem State.emptied_eq (i : StreamId) (reason : ReturnReason) (s : State) :
    (s.setList i []).flush i reason = s.emptied i (s.flushed i reason) := by
  simp [flush, setList, emptied, appendRelease, flushed, setTxs, setRxs, rxs, contextsInOrder, contextsOf, stream]
  rfl

/-- An OPEN stream faults (R19, R49). -/
theorem State.reportFault_opened {i : StreamId} {f : FaultReport} {s : State} (h : FencesUnsettled s)
    (ho : (s.stream i).state = .opened) :
    s.reportFault i f = s.faultedBy i (failedList f.failure (s.txs i).list) f.cause f.reason := by
  simp only [reportFault, ho, failList_eq' _ _ _ h, flush_withRetired, emptied_eq, setState, recordEvent,
    withRetired_stream, setStream_withRetired, setStream_stream_self, setStream_twice, faultedBy]
  rfl

/-- Records posted before a stream ends are posted before those of its end. -/
theorem State.ended_withPosted (i : StreamId) (first : List Completion) (flush : List ReleaseEntry)
    (pend : List (Tag × CloseMode)) (cause : ReleaseCause) (s : State) :
    State.ended i [] [] flush pend cause (s.withPosted first) = s.ended i first [] flush pend cause := by
  by_cases h : first = []
  · subst h
    rfl
  · simp only [ended, retirePosts, fencesAfter, List.nil_append, List.append_nil, ← withPosted_append]
    congr 1
    · simp [listReturned]
    · simp only [listReturned, emptied, withPosted, h, if_false]
      rfl

/-- The end of a stream whose list has just been failed and retired (R15, R20). -/
theorem State.ended_withRetired (i : StreamId) (es : List SendEntry) (flush : List ReleaseEntry)
    (pend : List (Tag × CloseMode)) (cause : ReleaseCause) (s : State) :
    State.ended i [] [] flush pend cause (State.withRetired i es (s.setList i [])) =
      s.ended i [] es flush pend cause := by
  have hft : (s.setList i []).ft = s.ft := rfl
  rw [withRetired, hft, ended_withPosted]
  simp only [ended, retirePosts, fencesAfter, List.nil_append, List.append_nil]
  simp [emptied, listReturned, setList, setTxs, setRxs, setStream, txs, rxs, stream]

@[simp] theorem State.flushed_withPosted (i : StreamId) (reason : ReturnReason) (cs : List Completion) (s : State) :
    (s.withPosted cs).flushed i reason = s.flushed i reason := by
  simp only [flushed, contextsInOrder, contextsOf, withPosted_rxs, withPosted_stream, withPosted_re]

theorem State.flushed_withRetired (i : StreamId) (reason : ReturnReason) (es : List SendEntry) (s : State) :
    (s.withRetired i es).flushed i reason = s.flushed i reason := by
  rw [withRetired, flushed_withPosted]
  rfl

theorem State.flushed_failed (i : StreamId) (reason : ReturnReason) (es : List SendEntry) (s : State) :
    (State.withRetired i es ((s.freeSlotsOfStream i).setList i [])).flushed i reason = s.flushed i reason :=
  flushed_withRetired i reason es _

/-- Failing the list, flushing, releasing the buffers and entering RELEASING (R15, R20). -/
theorem State.endFailed_eq {i : StreamId} {cause : ListFailure} {reason : ReturnReason} {how : ReleaseCause}
    {s : State} (h : FencesUnsettled s) :
    (((s.failList i cause).flush i reason).releaseBuffers i).enterReleasing i how =
      (s.freeSlotsOfStream i).ended i [] (failedList cause (s.txs i).list) (s.flushed i reason)
        (s.stream i).closePending how := by
  rw [flushReleaseEnter_eq _ _ _ _ (by simp [failList_eq' _ _ _ h, setList]), failList_eq' _ _ _ h,
    flushed_failed, ended_withRetired, withRetired_stream]
  rfl

/-- A fault of a DRAINING stream finishes its close as STREAM_FAULTED (R20, R49). -/
theorem State.reportFault_draining {i : StreamId} {f : FaultReport} {s : State} (h : FencesUnsettled s)
    (hd : (s.stream i).state = .draining) :
    s.reportFault i f = (s.freeSlotsOfStream i).ended i [] (failedList f.failure (s.txs i).list)
      (s.flushed i f.reason) (s.stream i).closePending .faulted := by
  simp only [reportFault, hd, endFailed_eq h]

/-- The finished entries at the head of a list retire; where that empties the list of a DRAINING stream, its drain
ends (R14, R47). -/
theorem State.retire_eq {i : StreamId} {s : State} (h : FencesUnsettled s)
    (hf : ((s.txs i).list.takeWhile SendEntry.finished) ≠ []) :
    s.retire i =
      if (s.stream i).state = .draining ∧ (s.txs i).list.dropWhile SendEntry.finished = [] then
        s.ended i [] ((s.txs i).list.takeWhile SendEntry.finished) (s.flushed i .streamClosed)
          (s.stream i).closePending .closed
      else
        State.withRetired i ((s.txs i).list.takeWhile SendEntry.finished)
          (s.setList i ((s.txs i).list.dropWhile SendEntry.finished)) := by
  simp only [retire, TxStream.finishedHead, hf, if_false, retireHeads_eq _ _ h, endDrainIfEmpty]
  by_cases hc : (s.stream i).state = .draining ∧ (s.txs i).list.dropWhile SendEntry.finished = []
  · rw [if_pos (by simpa [setList] using hc), if_pos hc, endDrain,
      flushReleaseEnter_eq _ _ _ _ (by simpa [setList] using hc.2), hc.2, ended_withRetired]
    congr 1
    · exact flushed_withRetired i _ _ _
    · simp [setList]
  · rw [if_neg (by simpa [setList] using hc), if_neg hc]

end Sys2Proof.Machine
end

