-- ==== Sys2Proof/Tests/Slice0.lean ====
section
/-! SUPPORT. Tests: ill-formed commands refused by WellFormed, single steps with the values of the manual's worked
examples (each names its source), and for every obligation with hypotheses a witness that meets them. -/

open Sys2Proof Sys2Proof.Machine

namespace Sys2Proof.Tests

set_option Elab.async false -- the tests are many: one thread for each would need more memory than the check allows

/-! ### Small states -/

/-- The state a command leaves. -/
def after (c : Instr) (s : State) : State :=
  match exec c s with
  | .next t => t
  | _ => State.reset

def laneUp : Lane := { Lane.reset with state := .up, silenceTimer := .running 64 }
def laneAligned : Lane := { Lane.reset with state := .aligned, silenceTimer := .running 64 }
def laneSeeking : Lane := { Lane.reset with state := .seeking }

/-- RUNNING and configured as role B with epoch 7 on lanes 0 to 2, of which these are the states. -/
def configured (a b c : Lane) : State :=
  { State.reset with
    hau.engine := .running
    hau.enable := true
    rp.config := ⟨true, 7, .b, 7, 200, 3, 50, 100⟩
    lm.lanes := #v[a, b, c, Lane.reset] }

/-- Lanes 0 and 1 are UP to a partner of epoch 9. -/
def linked : State :=
  { configured laneUp laneUp laneSeeking with lm.linkState := .up, lm.partnerEpoch := 9 }

/-- The stream is in this state under generation 4. -/
def withStream (i : StreamId) (x : StreamState) (s : State) : State :=
  s.setStream i { StreamRecord.reset with state := x, gen := 4, lastGen := 4 }

/-- A send entry of 700 bytes. -/
def entry (m : Msn) (x : EntryState) : SendEntry := ⟨0x107, 0x1000, 700, m, x, 0, 0, 0, .stopped, .stopped⟩
def awaiting (m : Msn) : SendEntry := { entry m .awaiting with ackTimer := .running 200 }
def held (m : Msn) : SendEntry := { entry m .held with holdoffTimer := .running 50 }

/-- The stream's transmit list holds these entries, whose last MSN comes before `next`. -/
def withList (i : StreamId) (l : List SendEntry) (next : Msn) (s : State) : State :=
  s.setTxs i { TxStream.reset with list := l, txNext := next }

def work (i : StreamId) (m : Msn) : SlotWork := ⟨i, m, 0, 3, 0, 0, .free, .free⟩
def buffer (tag : Tag) (capacity : Nat) : Buffer := ⟨tag, 0x9000, capacity⟩

/-- The tracker's entry of a record read. -/
def recordEntry : ReadEntry := ⟨0, .requestProcessor, 0x5000, 64, [], .running 50000⟩

/-- A record read is outstanding, its slot reserved. -/
def reading (s : State) : State :=
  { s with
    rp.taking := .reading false
    cp.reserved := s.cp.reserved + 1
    hau.tracker := recordEntry :: s.hau.tracker }

/-- Stream 5 is OPEN on a link that is UP, with entries in every unfinished state. -/
def opened : State :=
  (withList 5 [entry 0 .sending, awaiting 1, held 2, entry 3 .queued] 4 (withStream 5 .opened linked)).setSlot 0
    (some (work 5 0))

/-- Stream 5 is DRAINING. -/
def draining : State := opened.setStream 5
  { opened.stream 5 with state := .draining, closePending := [(0x2, .graceful)] }

/-- A context of stream 5. -/
def context (m : Msn) (x : ContextState) (received : BitVec 64) (last : Option (Nat × Nat)) (out n : Nat) : ReContext :=
  ⟨5, m, x, buffer 0xB1 1024, received, last, out, n⟩

/-- Stream 5 with these contexts, and these writes in the write queue. -/
def landing (cs : List ReContext) (q : List HostWrite) : State :=
  { opened with re.contexts := cs, re.nextOccupancy := 20, hau.writeQueue := q }

/-! ### Ill-formed commands -/

theorem wellFormed_align : (Instr.alignReceived 0 .a 0 true).wellFormed = false ∧
    (Instr.alignReceived 0 .a 1 true).wellFormed = true := by decide
theorem wellFormed_slice : (Instr.sliceReceived 0 0 0 0 0 0 true (List.replicate 257 0)).wellFormed = false ∧
    (Instr.sliceReceived 0 0 0 0 0 0 true (List.replicate 256 0)).wellFormed = true := by decide +kernel
theorem wellFormed_recordRead : (Instr.recordReadComplete []).wellFormed = false ∧
    (Instr.recordReadComplete (List.replicate 65 0)).wellFormed = false := by decide +kernel
theorem wellFormed_sliceRead : (Instr.sliceReadReturn 0 []).wellFormed = false ∧
    (Instr.sliceReadReturn 0 (List.replicate 257 0)).wellFormed = false := by decide +kernel
theorem wellFormed_registerWrite : (Instr.registerWrite 4 3 0).wellFormed = false ∧
    (Instr.registerWrite 4 4 0x100000000).wellFormed = false := by decide +kernel

/-- The opcode table gives its rows no bits, so no word spells a command. -/
theorem test_no_word : decodeTableWord 32 0x5A = none := by decide

/-! ### Formats (Chapter 11) -/

/-- R190: the check value of the CRC. -/
theorem test_crc : crc [0x31, 0x32, 0x33, 0x34, 0x35, 0x36, 0x37, 0x38, 0x39] = 0xE3069283#32 := by decide +kernel

/-- Section 11.1, the last slice of a 700-byte message. -/
theorem test_slice_unit :
    let x := LinkUnit.slice ⟨5, 4, 1, 1, 2, true, List.replicate 188 0xEE⟩
    x.bytes.take 9 = [0x5A, 0x05, 0x94, 0x01, 0x02, 0x00, 0x00, 0xBC, 0xEE] ∧ x.bytes.length = 200 := by
  decide +kernel

/-- Section 11.1, the ACK that answers it; R192: reserved bits are not looked at. -/
theorem test_ack_unit : (LinkUnit.notice (.ack 5 4 1)).bytes.take 4 = [0x71, 0x05, 0x04, 0x01] ∧
    judgeUnit (withCrc [0x71, 0x05, 0xF4, 0x01]) = some (.notice (.ack 5 4 1)) := by decide +kernel

/-- R192: a stream field above 63, an epoch of 0 and an unknown kind make a unit bad. -/
theorem test_bad_units : judgeUnit (withCrc [0x71, 64, 4, 1]) = none ∧
    judgeUnit (withCrc [0x3C, 1, 0, 1]) = none ∧ judgeUnit (withCrc [0x10, 0, 0, 0]) = none := by decide +kernel

/-- Section 11.3, the SEND completion of S7. -/
theorem test_send_completion :
    (⟨0, true, .requestDone 0x04 5 0x107 .success (.sendDone 1 1 1)⟩ : PostedRecord).bytes =
      [0x01, 0x01, 0x05, 0x00, 0x07, 0x01, 0x00, 0x00, 0x04, 0x00, 0x00, 0x00, 0x01, 0x01, 0x01] ++
        List.replicate 17 0 := by decide

/-- Section 11.3, the ARRIVAL into buffer B1. -/
theorem test_arrival_completion :
    (⟨0, true, .arrival 5 0xB001 4 1 700 .ok⟩ : PostedRecord).bytes =
      [0x02, 0x01, 0x05, 0x00, 0x01, 0xB0, 0x00, 0x00, 0x04, 0x01, 0xBC, 0x02] ++ List.replicate 20 0 := by decide

/-! ### The register window and the resets -/

/-- R179: a port reset loses the ring geometry, a soft reset keeps it. -/
theorem test_resets :
    let s : State := { linked with hau.rqRing := ⟨5, 7⟩ }
    (after .portReset s).hau.rqRing = ⟨0, 4⟩ ∧ (after .softReset s).hau.rqRing = ⟨5, 7⟩ ∧
      (after .softReset s).hau.engine = .stopped := by decide +kernel

/-- R139: ENABLE cleared in HOLDING gives the reservation back. -/
theorem test_enable :
    let s : State := { linked with rp.taking := .holding, cp.reserved := 3 }
    (after (.enableSet false) State.reset).hau.engine = .running ∧ (after (.enableClear false) s).cp.reserved = 2 ∧
      (after (.enableClear false) s).rp.taking = .idle := by decide +kernel

/-- R176: an order of 3 is not taken; R155: an order that cannot hold the reserved slots is not taken. -/
theorem test_ring_writes :
    (after (.rqRingWrite 0x12003) State.reset).hau.rqRing = ⟨0x12, 4⟩ ∧
      (after (.cqRingWrite 0x12004) { State.reset with hau.cqRing := ⟨0, 6⟩, cp.reserved := 17 }).hau.cqRing
        = ⟨0x12, 6⟩ := by decide +kernel

/-- R135: the stored tail is the written value modulo the ring size. -/
theorem test_rq_tail : (after (.rqTailWrite 21) linked).rp.rqTail = 5 := by decide +kernel

/-- Section 8.5, the last two rows of the example: slots 10 to 15 and 0 to 2 unconsumed. -/
theorem test_cq_head :
    let s : State := { linked with cp.tail := 3, cp.unconsumed := 9, cp.reserved := 1 }
    (after (.cqHeadWrite 4) s).cp.unconsumed = 9 ∧ (after (.cqHeadWrite 0) s).cp.unconsumed = 3 := by decide +kernel

/-- Section 9.6: an accepted CQ_HEAD write of advance 1 owes a message that awaits the record still unwritten. -/
theorem test_cq_head_owes :
    let s : State := { linked with
      hau.intEnable := true
      cp.tail := 3
      cp.unconsumed := 3
      hau.writeQueue := [.record ⟨0, true, .streamEvent 0 ⟨.resynced, 1, 1⟩⟩] }
    (after (.cqHeadWrite 1) s).hau.interruptOwed = some 1 := by decide +kernel

/-- R173: a write of the high half keeps the low half. -/
theorem test_half_write :
    (after (.registerWrite 0x14 4 0x1) { State.reset with hau.rqRing := ⟨0x12, 5⟩ }).readRegister 0x10 8
      = 0x0000000100012005 := by decide +kernel

/-! ### Requests (Section 7.7, one step each) -/

/-- The part of section 7.7 after its reset, with the next record read outstanding. -/
def fresh : State := reading { State.reset with hau.engine := .running, hau.enable := true, rp.rqTail := 5 }

theorem test_query_link_unconfigured :
    let t := after (.queryLink 9 0) fresh
    t.rp.rqHead = 1 ∧ t.cp.unconsumed = 1 ∧ t.cp.reserved = 0 ∧ t.cp.backlog.map PostedRecord.content =
      [.requestDone 0x08 0 9 .success (.linkDone ⟨Vector.replicate 4 ⟨.off, 0, 0⟩, 0, .down, false⟩)] := by
  decide +kernel

theorem test_open_unconfigured :
    (after (.openStream 3 9) fresh).cp.backlog.map PostedRecord.content =
      [.requestDone 0x02 3 9 .notConfigured .none] := by decide +kernel

theorem test_configure_out_of_range :
    let t := after (.configure 9 1 1 7 9 200 50 200) fresh
    t.cp.backlog.map PostedRecord.content = [.requestDone 0x01 0 9 .badRequest .none] ∧
      t.rp.config.configured = false := by decide +kernel

theorem test_configure_applied :
    let t := after (.configure 9 1 1 7 7 200 50 200) fresh
    t.cp.backlog.map PostedRecord.content = [.requestDone 0x01 0 9 .success .none] ∧ (t.lane 0).state = .seeking ∧
      (t.lane 1).state = .off ∧ t.rp.config.role = .a := by decide +kernel

theorem test_open_taken :
    let t := after (.openStream 3 9) (reading (configured laneSeeking Lane.reset Lane.reset))
    (t.stream 3).state = .opening ∧ (t.stream 3).gen = 1 ∧ t.cp.reserved = 1 ∧ t.cp.unconsumed = 0 ∧
      t.lm.noticeQueue = [] := by decide +kernel

/-- Section 3.5, the CLOSE(IMMEDIATE): the contexts' buffers return in MSN order ahead of the unused one. -/
theorem test_close_immediate :
    let s := (landing [⟨5, 1, .assembling, buffer 0xA 1024, 1, none, 1, 7⟩, ⟨5, 2, .assembling, buffer 0xC 4096, 1,
      none, 1, 9⟩] []).setRxs 5 { RxStream.reset with bufferList := [buffer 0xD 2048], rxExpected := 1 }
    let t := after (.closeStream 5 9 2) (reading s)
    (t.rxs 5).releaseList.map (fun e => e.buffer.tag) = [0xA, 0xC, 0xD] ∧ (t.stream 5).state = .releasing ∧
      (t.txs 5).list = [] := by decide +kernel

/-- R29: the accepted SEND takes `tx_next` as its MSN and posts nothing; R59: the fourth buffer listed. -/
theorem test_send_post :
    let t := after (.send 5 9 0x1000 700) (reading opened)
    let u := after (.post 5 9 0x9000 2048) (reading (opened.setRxs 5 { RxStream.reset with
      bufferList := [buffer 1 1024, buffer 2 512, buffer 3 4096] }))
    (t.txs 5).list.map SendEntry.msn = [0, 1, 2, 3, 4] ∧ (t.txs 5).txNext = 5 ∧ t.cp.unconsumed = 0 ∧
      u.cp.backlog.map PostedRecord.content = [.requestDone 0x05 5 9 .success (.postDone 4)] := by decide +kernel

/-- Section 5.3: FENCE F counts the three entries of its stream. -/
theorem test_fence :
    let s := withList 14 [awaiting 60, awaiting 61, awaiting 62] 63 (withStream 14 .opened linked)
    let t := after (.fence 14 9 1) (reading s)
    t.ft.map (fun r => (r.remaining[(14 : StreamId)], r.failures, r.awaited)) = [(3, 0, 3)] := by decide +kernel

/-- R149, R151: the counters are reported and then cleared. -/
theorem test_query_stream :
    let s := opened.setTxs 5 { opened.txs 5 with slicesSent := 8, retransmissions := 1 }
    let t := after (.queryStream 5 9 1) (reading s)
    (t.txs 5).slicesSent = 0 ∧ t.cp.backlog.map PostedRecord.content = [.requestDone 0x07 5 9 .success (.streamDone
      ⟨.opened, 4, 4, 0, 4, 0, 0, 0, 8, 1, 0, 0, 0⟩)] := by decide +kernel

/-! ### Host reads -/

/-- Section 7.7: the grant reserves a slot and issues the read of position 0. -/
theorem test_reservation_grant :
    let t := after .reservationGrant { fresh with rp.taking := .idle, cp.reserved := 0, hau.tracker := [] }
    t.rp.taking = .reading false ∧ t.cp.reserved = 1 ∧ t.hau.tracker.length = 1 := by decide +kernel

/-- R138: HOLDING issues its read once the tracker has room. -/
theorem test_record_read_issue :
    (after .recordReadIssue { linked with rp.taking := .holding }).rp.taking = .reading false := by decide +kernel

/-- R193: the bytes of an OPEN record on stream 3 with tag 0x0102. -/
theorem test_record_bytes :
    let t := after (.recordReadComplete ([0x02, 0x03, 0, 0, 0x02, 0x01] ++ List.replicate 58 0)) (reading linked)
    (t.stream 3).openPending = some 0x0102 ∧ (t.stream 3).state = .opening := by decide +kernel

/-- R33, R34: the last slice of 700 bytes is read as 188 bytes at offset 512. -/
theorem test_slice_read_issue :
    let s := opened.setSlot 0 (some { work 5 0 with nextRead := 2, placeA := .ready 1 [] })
    (after .sliceReadIssue s).hau.tracker.map (fun r => (r.address, r.length)) = [(0x1200, 188)] := by decide +kernel

/-- R35: data of an earlier occupation is discarded; data of the present one fills the waiting place. -/
theorem test_slice_read_return :
    let s (n : Nat) : State := { opened.setSlot 0 (some { work 5 0 with nextRead := 1, placeA := .waiting 0 }) with
      hau.tracker := [⟨6, .slicer 0 n 0, 0x1000, 2, [], .running 5⟩] }
    ((after (.sliceReadReturn 6 [1, 2]) (s 3)).slot 0).map SlotWork.placeA = some (.ready 0 [1, 2]) ∧
      ((after (.sliceReadReturn 6 [1, 2]) (s 2)).slot 0).map SlotWork.placeA = some (.waiting 0) := by decide +kernel

/-- Section 9.6: with nothing unconsumed, a read that times out halts the engine and owes a message at once. -/
theorem test_read_timeout :
    let s : State := { opened with
      hau.intEnable := true
      hau.tracker := [⟨6, .slicer 0 3 0, 0x1000, 256, [], .running 5⟩] }
    let t := after (.readTimeout 6) s
    t.hau.engine = .halted ∧ t.hau.faultAddress = 0x1000 ∧ t.hau.haltCause = .readTimeout ∧
      t.hau.interruptOwed = some 0 ∧ t.readRegister 0x08 4 = 0x33A := by decide +kernel

theorem test_read_error :
    (after (.readError 0) (reading linked)).hau.haltCause = .readError ∧
      (after (.readError 0) (reading linked)).hau.tracker = [] := by decide +kernel

/-- R182: the identifier of a forgotten read is free again. -/
theorem test_forgotten :
    let s : State := { linked with hau.forgotten := [4, 6] }
    (after (.forgottenReadReturn 6) s).hau.forgotten = [4] ∧ (after (.forgottenReadExpiry 4) s).hau.forgotten = [6] := by
  decide +kernel

/-! ### The Transmit Engine -/

/-- Section 2.3: with A in slot 0, slot 1 takes B, and the slicer pointer names stream 5. -/
theorem test_slot_fill :
    let s := (withList 5 [entry 0 .sending, entry 1 .queued] 2 (withStream 5 .opened linked)).setSlot 0
      (some (work 5 0))
    let t := after .slicerSlotFill s
    (t.slot 1).map SlotWork.msn = some 1 ∧ t.te.slicerPointer = 5 ∧
      (t.txs 5).list.map SendEntry.state = [.sending, .sending] := by decide +kernel

/-- Section 6.6, the first placement: the ACK goes to lane 0, which had room for one more. -/
theorem test_placement :
    let unit := LinkUnit.idle
    let s : State := { linked with
      lm.lanes := #v[{ laneUp with txQueue := [unit, unit, unit] }, { laneUp with txQueue := [unit, unit, unit, unit] },
        { laneUp with txQueue := [unit, unit] }, laneSeeking]
      lm.lanePointer := 2
      lm.noticeQueue := [.ack 4 1 17, .defer 9 1 2 0 .noBuffer] }
    let t := after .unitPlacement s
    t.lm.lanePointer = 0 ∧ (t.lane 0).txQueue = [unit, unit, unit, .notice (.ack 4 1 17)] ∧
      t.lm.noticeQueue.length = 1 := by decide +kernel

/-- Section 5.3, the last event: the fence completes between SEND 62 and SEND 63. -/
theorem test_ack_retires :
    let s := withList 14 [awaiting 60, entry 61 .acked, entry 62 .acked, entry 63 .acked] 64 (withStream 14 .opened linked)
    let f : FenceRecord := ⟨0xF, .one 14, Vector.ofFn fun i => if i = 14 then 3 else 0, 0, 3⟩
    let t := after (.ackReceived 0 14 4 60) { s with ft := [f], cp.reserved := 5 }
    (t.txs 14).list = [] ∧ t.ft = [] ∧ t.cp.reserved = 0 ∧ t.cp.backlog.map PostedRecord.content =
      [.requestDone 4 14 0x107 .success (.sendDone 60 0 0), .requestDone 4 14 0x107 .success (.sendDone 61 0 0),
        .requestDone 4 14 0x107 .success (.sendDone 62 0 0), .requestDone 6 14 0xF .success (.fenceDone (.one 14) 0 3),
        .requestDone 4 14 0x107 .success (.sendDone 63 0 0)] := by decide +kernel

/-- Section 2.6: the tenth entry stands outside the window, so its ACK is ignored. -/
theorem test_ack_outside_window :
    let s := withList 12 (((List.range 8).map fun k => awaiting (BitVec.ofNat 8 (40 + k))) ++ [entry 48 .queued, entry 49 .queued]) 50 (withStream 12 .opened linked)
    ((after (.ackReceived 0 12 4 49) s).txs 12).list = (s.txs 12).list := by decide +kernel

/-- Section 10.3, step 8: the DEFER of attempt 0 holds the entry; one of another attempt does not. -/
theorem test_defer :
    let s := withList 5 [awaiting 1] 2 (withStream 5 .opened linked)
    ((after (.deferReceived 0 5 4 1 0 .noBuffer) s).txs 5).list = [{ held 1 with defers := 1 }] ∧
      ((after (.deferReceived 0 5 4 1 1 .noBuffer) s).txs 5).list = [awaiting 1] := by decide +kernel

/-- R44: the entry fails and, as the head, retires; the stream stays OPEN. -/
theorem test_reject_too_long :
    let t := after (.rejectTooLongReceived 0 5 4 1) (withList 5 [awaiting 1] 2 (withStream 5 .opened linked))
    (t.stream 5).state = .opened ∧ t.cp.backlog.map PostedRecord.content =
      [.requestDone 4 5 0x107 (.sendFailed .remoteTooLong) (.sendDone 1 0 0)] := by decide +kernel

/-- R45, R48: the named entry completes REMOTE_CLOSED, the other one STREAM_FAULTED. -/
theorem test_reject_not_open :
    let s := withList 5 [awaiting 1, awaiting 2] 3 (withStream 5 .opened linked)
    let t := after (.rejectNotOpenReceived 0 5 4 2) s
    (t.stream 5).state = .faulted ∧ (t.stream 5).event = some ⟨.faulted .remoteClosed, 4, 1⟩ ∧
      t.cp.backlog.map PostedRecord.content =
        [.requestDone 4 5 0x107 (.sendFailed .streamFaulted) (.sendDone 1 0 0),
          .requestDone 4 5 0x107 (.sendFailed .remoteClosed) (.sendDone 2 0 0)] := by decide +kernel

/-- Section 2.6: the ack timer of 40 expires below the limit. Section 5.6: at the limit the stream faults. -/
theorem test_ack_timer :
    let s (n : Nat) := withList 12 [{ awaiting 40 with retries := n }, awaiting 41] 42 (withStream 12 .opened linked)
    let t := after (.ackTimerExpiry 12 40) (s 0)
    ((t.txs 12).list.head?.map fun e => (e.state, e.attempt, e.retries)) = some (.queued, 1, 1) ∧
      (t.txs 12).retransmissions = 1 ∧
      ((after (.ackTimerExpiry 12 40) (s 2)).cp.backlog.map PostedRecord.content) =
        [.requestDone 4 12 0x107 (.sendFailed .noResponse) (.sendDone 40 3 0),
          .requestDone 4 12 0x107 (.sendFailed .streamFaulted) (.sendDone 41 0 0)] := by decide +kernel

/-- Section 10.3, step 9: the holdoff advances the attempt and not the retries; R40: the attempt wraps. -/
theorem test_holdoff :
    let s (a : Attempt) := withList 5 [{ held 1 with attempt := a }] 2 (withStream 5 .opened linked)
    let e (a : Attempt) := (((after (.holdoffTimerExpiry 5 1) (s a)).txs 5).list.head?.map
      fun e => (e.state, e.attempt, e.retries))
    e 0 = some (.queued, 1, 0) ∧ e 7 = some (.queued, 0, 0) := by decide +kernel

/-! ### The Receive Engine (Section 4.5, one step each) -/

/-- Stream 7 of section 4.5 before its first slice. -/
def stream7 : State :=
  (withStream 7 .opened linked).setRxs 7 { RxStream.reset with
    rxExpected := 10, bufferList := [buffer 1 1024, buffer 2 1024, buffer 3 1024] }

theorem test_first_slice :
    let t := after (.sliceReceived 0 7 4 11 0 1 true (List.replicate 44 0)) stream7
    t.re.contexts = [⟨7, 11, .assembling, buffer 1 1024, 2, some (1, 44), 1, 0⟩] ∧
      (t.rxs 7).bufferList = [buffer 2 1024, buffer 3 1024] ∧
      t.hau.writeQueue = [.data 0 0x9100 (List.replicate 44 0)] := by decide +kernel

theorem test_last_gap :
    let s : State := { stream7 with
      re.contexts := [⟨7, 11, .assembling, buffer 1 1024, 2, some (1, 44), 1, 0⟩], re.nextOccupancy := 1 }
    (after (.sliceReceived 0 7 4 11 0 0 false (List.replicate 256 0)) s).re.contexts =
      [⟨7, 11, .landing, buffer 1 1024, 3, some (1, 44), 2, 0⟩] := by decide +kernel

/-- The last departure delivers MSN 10 and MSN 11 in one event. -/
theorem test_delivery :
    let s : State := { stream7 with
      re.contexts := [⟨7, 11, .complete, buffer 1 1024, 3, some (1, 44), 0, 0⟩,
        ⟨7, 10, .landing, buffer 2 1024, 7, some (2, 88), 1, 1⟩]
      hau.writeQueue := [.data 1 0x9100 [0]] }
    let t := after .dataWriteDeparts s
    t.re.contexts = [] ∧ (t.rxs 7).rxExpected = 12 ∧ (t.stream 7).history = [(10, .ack), (11, .ack)] ∧
      (t.rxs 7).releaseList = [⟨buffer 2 1024, .arrival 4 10 600 .ok⟩, ⟨buffer 1 1024, .arrival 4 11 300 .ok⟩] ∧
      t.lm.noticeQueue = [.ack 7 4 10] := by decide +kernel

/-! ### The Stream Table -/

/-- R8: role B adopts the partner's proposal. R9: a duplicate is answered. -/
theorem test_sync :
    let s := withStream 5 .opening linked
    let t := after (.syncReceived 0 5 6) (s.setStream 5 { s.stream 5 with openPending := some 9 })
    (t.stream 5).state = .opened ∧ (t.stream 5).lastGen = 6 ∧ t.lm.noticeQueue = [.syncAck 5 6] ∧
      (after (.syncReceived 0 5 4) opened).lm.noticeQueue = [.syncAck 5 4] := by decide +kernel

/-- R7: another generation is ignored. -/
theorem test_sync_ack :
    let s := withStream 5 .opening linked
    ((after (.syncAckReceived 0 5 4) s).stream 5).state = .opened ∧
      ((after (.syncAckReceived 0 5 5) s).stream 5).state = .opening := by decide +kernel

/-- R5: `sync_sent` saturates at 65535. -/
theorem test_sync_timer :
    let s := withStream 5 .opening linked
    let t := after (.syncTimerExpiry 5) (s.setStream 5 { s.stream 5 with syncTimer := .running 3, syncSent := 65535 })
    (t.stream 5).syncSent = 65535 ∧ (t.stream 5).syncTimer = .running 100 := by decide +kernel

/-! ### The Link Manager -/

/-- R110, R191: an empty UP lane transmits IDLE; a SEEKING lane ALIGN with ready 0. -/
theorem test_transmit :
    (match (after (.laneUnitTransmit 0) linked).emitted with
      | [.laneUnit 0 bs] => bs.take 4
      | _ => []) = [0x0F, 0, 0, 0] ∧
    (match (after (.laneUnitTransmit 2) linked).emitted with
      | [.laneUnit 2 bs] => bs.take 4
      | _ => []) = [0x3C, 0x02, 7, 0x00] := by decide +kernel

/-- Section 6.9, the restart: lane 1 is UP, lane 0 back in SEEKING without a retrain, stream 2 FAULTED. -/
theorem test_restart :
    let s := withList 2 [awaiting 0, awaiting 1] 2 (withStream 2 .opened { configured laneAligned laneAligned Lane.reset with
      lm.partnerEpoch := 3, lm.linkEvent := 1, rp.config.role := .a })
    let t := after (.alignReceived 1 .b 4 true) s
    (t.lane 1).state = .up ∧ (t.lane 0).state = .seeking ∧ (t.lane 0).retrains = 0 ∧ t.lm.partnerEpoch = 4 ∧
      t.lm.linkState = .up ∧ t.lm.linkEvent = 2 ∧ (t.stream 2).event = some ⟨.faulted .peerReset, 4, 1⟩ ∧
      t.cp.backlog.length = 2 := by decide +kernel

/-- R116: the fourth bad unit in a row. R118: leaving UP counts a retrain. -/
theorem test_bad_unit :
    let s := linked.setLane 0 { laneUp with badRun := 3 }
    ((after (.badUnitReceived 0) s).lane 0).state = .seeking ∧ ((after (.badUnitReceived 0) s).lane 0).retrains = 1 ∧
      ((after (.badUnitReceived 1) s).lane 1).state = .up := by decide +kernel

/-- R115: an ALIGNED lane that hears IDLE returns to SEEKING. -/
theorem test_idle :
    ((after (.idleReceived 0) (configured laneAligned Lane.reset Lane.reset)).lane 0).state = .seeking := by
  decide +kernel

/-- Section 6.9: the silence of the last UP lane takes the link DOWN and suspends the ack timers. -/
theorem test_silence :
    let s := (opened.setLane 1 laneSeeking).setSlot 0 none
    let t := after (.silenceTimerExpiry 0) s
    t.lm.linkState = .down ∧ t.lm.linkEvent = 1 ∧ (t.lane 0).retrains = 1 ∧
      ((t.txs 5).list.map SendEntry.ackTimer) = [.stopped, .suspended 200, .stopped, .stopped] := by decide +kernel

/-! ### The Completion Poster (Section 8.5, one step each) -/

def ring8 : State := { linked with cp.tail := 14, cp.unconsumed := 4, cp.reserved := 2 }

theorem test_link_event :
    let t := after .linkEventGrant { ring8 with lm.linkEvent := 1 }
    t.cp.tail = 15 ∧ t.cp.unconsumed = 5 ∧ t.lm.linkEvent = 0 ∧
      t.cp.backlog = [⟨32 * 14, true, .linkEvent .up 3 9 1⟩] := by decide +kernel

theorem test_stream_event :
    let s : State := { ring8 with cp.tail := 15, cp.unconsumed := 5 }
    let t := after .streamEventGrant (s.setStream 2 { s.stream 2 with event := some ⟨.resynced, 1, 1⟩ })
    t.cp.tail = 0 ∧ t.cp.phase = false ∧ t.cp.backlog = [⟨32 * 15, true, .streamEvent 2 ⟨.resynced, 1, 1⟩⟩] := by
  decide +kernel

theorem test_release_list :
    let s : State := { ring8 with cp.tail := 0, cp.phase := false, cp.unconsumed := 6 }
    let t := after .releaseListGrant (s.setRxs 5 { s.rxs 5 with
      releaseList := [⟨buffer 0xB1 1024, .arrival 4 1 700 .ok⟩] })
    t.cp.tail = 1 ∧ t.cp.releasePointer = 5 ∧ (t.rxs 5).releaseList = [] ∧
      t.cp.backlog = [⟨0, false, .arrival 5 0xB1 4 1 700 .ok⟩] := by decide +kernel

/-- Section 9.6: the record's departure leaves the owed message awaiting nothing, and it is then sent. -/
theorem test_record_departs :
    let p : PostedRecord := ⟨0x40, true, .streamEvent 2 ⟨.resynced, 1, 1⟩⟩
    let s : State := { linked with hau.interruptOwed := some 1, hau.writeQueue := [.record p], cp.backlog := [p] }
    let t := after .recordWriteDeparts s
    t.hau.interruptOwed = some 0 ∧ (after (.interruptMessage true) t).emitted.length = 2 ∧
      (after .backlogMove s).hau.writeQueue.length = 2 := by decide +kernel

/-- R190: a unit whose end mark is lost ends at the next start mark; bytes without a start mark are none. -/
theorem test_marks : unitsOnLine none ([.byte 5, .startMark, .byte 1, .byte 2] ++ LinkUnit.idle.onLine ++ [.byte 7]) =
    [[1, 2], LinkUnit.idle.bytes] := by decide +kernel

/-! ### Witnesses: states and operands that meet the hypotheses of each obligation, clause by clause -/

/-- The record states: each of them awaits a record, is configured and has no settled fence. -/
abbrev Takes (s : State) : Prop :=
  AwaitsRecord s recordEntry ∧ s.rp.config.configured = true ∧ FencesUnsettled s

/-- Stream 5 of a linked part in this state, with nothing in its lists. -/
def bare (x : StreamState) : State := withStream 5 x linked

theorem witness_PowerOnState : ((0x00, 8) : Nat × Nat) ∉ [(0x00, 4), (0x04, 4), (0x08, 4), (0x10, 4), (0x14, 4),
    (0x18, 4), (0x1C, 4), (0x20, 4), (0x24, 4), (0x28, 4), (0x30, 4), (0x34, 4), (0x10, 8), (0x18, 8), (0x30, 8)] := by
  decide

theorem witness_StepRunsFrontCommand : State.reset.pending = [] := rfl
theorem witness_ResetsGiveResetValues : ∃ c : Instr, c = .portReset ∨ c = .softReset := ⟨_, .inl rfl⟩
theorem witness_ControlWriteActs : State.reset.hau.engine = .stopped ∧ linked.hau.engine = .running := by
  decide +kernel
theorem witness_RingWritesAct : State.reset.hau.engine = .stopped ∧ linked.hau.engine ≠ .stopped := by decide +kernel

/-- An advance of exactly the unconsumed count, and of one more. -/
theorem witness_IndexWritesAct :
    let s : State := { linked with cp.tail := 3, cp.unconsumed := 9 }
    let advance (v : BitVec 32) := (v.toNat % 16 + (16 - s.cqHead)) % 16
    2 ^ s.hau.cqRing.order.toNat = 16 ∧ advance 3 = s.cp.unconsumed ∧ s.cp.unconsumed < advance 4 := by decide +kernel

theorem witness_RegisterWriteActs : ((0x00, 4) : Nat × Nat) ∉ [(0x04, 4), (0x10, 4), (0x14, 4), (0x18, 4), (0x1C, 4),
    (0x20, 4), (0x28, 4), (0x10, 8), (0x18, 8)] := by decide

theorem witness_RecordReadCompletes :
    (AwaitsRecord (reading linked) recordEntry ∧
      recordEntry.length ≤ (recordEntry.received ++ List.replicate 64 0).length) ∧
    (reading linked).recordRead = some recordEntry ∧
    (recordEntry.received ++ List.replicate 63 0).length < recordEntry.length ∧
    ({ reading linked with rp.taking := .reading true } : State).rp.taking = .reading true := by decide +kernel

theorem witness_RecordBytesAreRequests : (reading linked).recordRead = some recordEntry ∧ recordEntry.received = [] ∧
    recordEntry.length = 64 := by decide +kernel

/-- A record bad in its kind, in byte 2, in its last reserved byte, in its stream number; each field just outside its
range; and records without fault while the part is not configured. -/
theorem witness_BadRecordsAreRefused :
    let bytes (k st r end_ : Byte) : List Byte := [k, st, r, 0, 0, 0, 0, 0, 1] ++ List.replicate 54 0 ++ [end_]
    (∀ s ∈ [reading linked, fresh], AwaitsRecord s recordEntry) ∧ fresh.rp.config.configured = false ∧
    recordEntry.received = [] ∧ recordEntry.length = 64 ∧ (bytes 9 0 0 0).length = 64 ∧
    (∀ k < 9, k ≠ 0 → (bytes 9 0 0 0).getD 0 0 ≠ BitVec.ofNat 8 k) ∧ (bytes 3 0 1 0).getD 2 0 ≠ 0 ∧
    (∀ k ∈ ([1, 2, 3, 4, 5, 6, 7, 8] : List Byte), (bytes k 0 0 1).getD 63 0 ≠ 0) ∧
    (64 ≤ (64 : Byte).toNat ∧ ¬64 ≤ (63 : Byte).toNat) ∧ (16384 < (16385 : BitVec 16).toNat ∧ (0 : BitVec 16).toNat = 0) ∧
    (16 ≤ (16 : Byte).toNat ∧ 7 < (8 : Byte).toNat ∧ (9 : BitVec 16).toNat < 10 ∧ (99 : BitVec 16).toNat < 100) ∧
    ((3 : Byte) ≠ 0x01 ∧ (3 : Byte) ≠ 0x02) ∧ ((2 : Byte) ≠ 0x00 ∧ (2 : Byte) ≠ 0x01) ∧
    (fresh.rp.config.configured = false ∧ ∀ k ∈ ([0x02, 0x03, 0x04, 0x05, 0x06, 0x07] : List Byte),
      k ≠ 0x01 ∧ k ≠ 0x08) := by decide +kernel

theorem witness_ConfigureIsApplied :
    let s := reading linked
    let busy := reading (bare .releasing)
    AwaitsRecord s recordEntry ∧ AwaitsRecord busy recordEntry ∧ (∃ i, (busy.stream i).state ≠ .closed) ∧
      (∀ i, (s.stream i).state = .closed ∧ (s.txs i).list = []) ∧ LinkAgrees s ∧
      (1 : BitVec 4) ≠ 0 ∧ (1 : Byte) ≠ 0 ∧ (1 ≤ (7 : Byte).toNat ∧ (7 : Byte).toNat ≤ 7) ∧
      10 ≤ (10 : BitVec 16).toNat ∧ 1 ≤ (1 : BitVec 16).toNat ∧ 100 ≤ (100 : BitVec 16).toNat := by decide +kernel

theorem witness_OpenIsTaken : Takes (reading linked) ∧ ((reading linked).stream 5).state = .closed ∧
    Takes (reading opened) ∧ ((reading opened).stream 5).state ≠ .closed := by decide +kernel

theorem witness_CloseIsTaken :
    let opening := reading ((bare .opening).setStream 5 { (bare .opening).stream 5 with openPending := some 9 })
    (∀ s ∈ [reading opened, reading draining, reading (bare .opened), reading (bare .faulted), reading linked, opening],
      Takes s) ∧
    ((reading opened).stream 5).state = .opened ∧ ((reading opened).txs 5).list ≠ [] ∧
    ((reading draining).stream 5).state = .draining ∧ ((reading linked).stream 5).state = .closed ∧
    (((reading (bare .opened)).stream 5).state = .opened ∧ ((reading (bare .opened)).txs 5).list = []) ∧
    (∀ c ∈ opening.re.contexts, c.stream ≠ 5) ∧ ((reading (bare .faulted)).stream 5).state = .faulted ∧
    (opening.stream 5).state = .opening ∧ (opening.stream 5).openPending = some 9 := by decide +kernel

/-- A pool of 256 entries is spread over eight streams of 32. -/
theorem witness_SendIsTaken :
    let full (n : Nat) : State := { linked with te.tx := Vector.ofFn fun i =>
      { TxStream.reset with list := if i.val < n then List.replicate 32 (entry 0 .queued) else [] } }
    let s (n : Nat) : State := reading (withStream 9 .opened (full n))
    let t : State := reading (withStream 0 .opened (full 1))
    Takes (s 7) ∧ ((s 7).stream 9).state = .opened ∧ ((s 7).txs 9).list.length < 32 ∧ (s 7).sendEntries < 256 ∧
      Takes (s 8) ∧ 256 ≤ (s 8).sendEntries ∧ ((s 8).txs 9).list.length < 32 ∧
      Takes t ∧ (t.stream 0).state = .opened ∧ 32 ≤ (t.txs 0).list.length ∧
      Takes (reading draining) ∧ ((reading draining).stream 5).state = .draining ∧
      (1 ≤ (16384 : BitVec 16).toNat ∧ (16384 : BitVec 16).toNat ≤ 16384) := by decide +kernel

/-- A table of 512 entries is spread over 32 streams of 16. -/
theorem witness_PostIsTaken :
    let full (n : Nat) : State := { linked with re.rx := Vector.ofFn fun i =>
      { RxStream.reset with bufferList := if i.val < n then List.replicate 16 (buffer 1 1) else [] } }
    let s (n : Nat) : State := reading (withStream 40 .draining (full n))
    let t : State := reading (withStream 0 .opening (full 1))
    Takes (s 31) ∧ ((s 31).stream 40).state = .draining ∧ ((s 31).rxs 40).bufferList.length < 16 ∧
      (s 31).buffersInUse < 512 ∧ Takes (s 32) ∧ 512 ≤ (s 32).buffersInUse ∧
      Takes t ∧ (t.stream 0).state = .opening ∧ 16 ≤ (t.rxs 0).bufferList.length ∧
      Takes (reading linked) ∧ ((reading linked).stream 0).state = .closed := by decide +kernel

theorem witness_FenceIsTaken :
    let f : FenceRecord := ⟨1, .one 5, Vector.ofFn fun i => if i = 5 then 1 else 0, 0, 1⟩
    let s (n : Nat) : State := { reading opened with ft := List.replicate n f }
    Takes (s 3) ∧ (s 3).ft.length < 4 ∧ ((s 3).txs 5).list.length ≠ 0 ∧ Takes (s 4) ∧ 4 ≤ (s 4).ft.length ∧
      Takes (reading linked) ∧ (∀ j, ((reading linked).txs j).list.length = 0) := by decide +kernel

theorem witness_QueriesAnswer : AwaitsRecord fresh recordEntry ∧ Takes (reading opened) := by decide +kernel

/-- A tracker with eight reads. -/
def eight : List ReadEntry :=
  (List.range 8).map fun n => ⟨n, .slicer 0 0 0, 0, 256, [], .running 5⟩

theorem witness_RequestReadIsIssued :
    let s : State := { linked with rp.rqTail := 1, hau.tracker := eight.take 7, cp.unconsumed := 15 }
    let held : State := { linked with rp.taking := .holding }
    s.hau.engine = .running ∧ s.rp.taking = .idle ∧ s.rp.rqTail ≠ s.rp.rqHead ∧ s.lm.linkEvent = 0 ∧
      (∀ i, (s.stream i).event = none ∧ (s.rxs i).releaseList = []) ∧
      s.cp.unconsumed + s.cp.reserved < 2 ^ s.hau.cqRing.order.toNat ∧ s.hau.tracker.length < 8 ∧
      8 ≤ eight.length ∧ held.hau.engine = .running ∧ held.rp.taking = .holding ∧ held.hau.tracker.length < 8 := by
  decide +kernel

theorem witness_SliceReadIsIssued :
    let w := work 5 0
    opened.hau.engine ≠ .halted ∧ opened.rp.taking ≠ .holding ∧ opened.hau.tracker.length < 8 ∧
      opened.slot 0 = some w ∧ (opened.txs w.stream).locate w.msn = some (entry 0 .sending) ∧
      FirstInTurn opened.te.readPointer 0 (fun j => opened.wantsRead j = true) := by decide +kernel

theorem witness_SliceReadReturns :
    let r : ReadEntry := ⟨6, .slicer 0 3 0, 0x1000, 2, [], .running 5⟩
    let s : State := { opened with hau.tracker := [r] }
    s.readOf r.id = some r ∧ r.owner = .slicer 0 3 0 ∧ s.hau.engine ≠ .halted ∧
      r.length ≤ (r.received ++ [1, 2]).length ∧ (r.received ++ [1]).length < r.length ∧
      s.slot 0 = some (work 5 0) ∧ (work 5 0).occupation = 3 ∧ (work 5 0).occupation ≠ 2 := by decide +kernel

theorem witness_FailedReadHalts : (reading linked).readOf recordEntry.id = some recordEntry ∧
    (reading linked).hau.engine ≠ .halted ∧ recordEntry.timer.isRunning = true := by decide +kernel

/-- The entry is the eighth of its list, its stream the last in turn. -/
theorem witness_SlotTakesEntry :
    let l := (List.range 7).map (fun k => awaiting (BitVec.ofNat 8 k)) ++ [entry 7 .queued]
    let s : State := { withList 5 l 8 (withStream 5 .opened linked) with te.slicerPointer := 5 }
    s.lm.linkState = .up ∧ s.hau.engine ≠ .halted ∧ s.slot 0 = none ∧ (∀ j : SlotId, j < 0 → s.slot j ≠ none) ∧
      (s.txs 5).consecutive = true ∧ (s.txs 5).list.length ≤ 32 ∧ (s.txs 5).list[7]? = some (entry 7 .queued) ∧
      (∀ m < 7, ∀ d ∈ (s.txs 5).list[m]?, d.state ≠ .queued) ∧
      FirstInTurn s.te.slicerPointer 5 (fun j =>
        ((s.stream j).state = .opened ∨ (s.stream j).state = .draining) ∧
          ∃ d ∈ (s.txs j).list.take 8, d.state = .queued) := by decide +kernel

theorem witness_UnitIsPlaced :
    let notice : State := { linked with lm.noticeQueue := [.ack 5 4 1] }
    let w : SlotWork := { work 5 0 with nextRead := 1, placeA := .ready 0 [7] }
    let s := opened.setSlot 0 (some w)
    (∀ t ∈ [notice, s], t.hau.engine ≠ .halted ∧
      FirstInTurn t.lm.lanePointer 0 (fun j => (t.lane j).state = .up ∧ (t.lane j).txQueue.length < 4)) ∧
    notice.lm.noticeQueue = .ack 5 4 1 :: [] ∧ s.lm.noticeQueue = [] ∧
    FirstInTurn s.te.offerPointer 0 (fun j => s.hasReadySlice j = true) ∧ s.slot 0 = some w ∧
    (s.txs w.stream).locate w.msn = some (entry 0 .sending) ∧ w.readyData = some [7] := by decide +kernel

/-- An AWAITING entry that is not the head; a DRAINING stream whose only entry is answered. -/
theorem witness_AnsweredEntrySettles :
    let last := withList 5 [awaiting 9] 10 (withStream 5 .draining linked)
    let acked := withList 5 [awaiting 0, entry 1 .acked] 2 (withStream 5 .opened linked)
    (∀ s ∈ [opened, draining, last, acked], HearsUp s 0 ∧ FencesUnsettled s ∧
      ((s.stream 5).state = .opened ∨ (s.stream 5).state = .draining)) ∧
    ((opened.txs 5).position 1 < 8 ∧ (opened.txs 5).locate 1 = some (awaiting 1) ∧
      (awaiting 1).finished = false) ∧
    ((last.txs 5).position 9 < 8 ∧ (last.txs 5).locate 9 = some (awaiting 9)) ∧
    (acked.txs 5).position 1 < 8 ∧ (acked.txs 5).locate 1 = some (entry 1 .acked) ∧
    (entry 1 .acked).finished = true := by decide +kernel

theorem witness_DeferHoldsEntry : HearsUp opened 0 ∧ (opened.stream 5).state = .opened ∧
    (opened.txs 5).position 1 < 8 ∧ (opened.txs 5).locate 1 = some (awaiting 1) ∧ (awaiting 1).state = .awaiting ∧
    (0 : Attempt) = (awaiting 1).attempt ∧ (1 : Attempt) ≠ (awaiting 1).attempt ∧ (opened.txs 5).position 2 < 8 ∧
    (opened.txs 5).locate 2 = some (held 2) := by decide +kernel

theorem witness_RejectNotOpenFaults : (∀ s ∈ [opened, draining], HearsUp s 0 ∧ FencesUnsettled s ∧
    (s.txs 5).consecutive = true ∧ (s.txs 5).list.length ≤ 32) ∧ (opened.stream 5).state = .opened ∧
    (draining.stream 5).state = .draining := by decide +kernel

theorem witness_StrayNoticesAreIgnored : HearsUp opened 0 ∧ (3 : Gen) ≠ (opened.stream 5).gen ∧ HearsUp linked 0 ∧
    ¬((linked.stream 5).state = .opened ∨ (linked.stream 5).state = .draining) ∧ 8 ≤ (opened.txs 5).position 8 ∧
    (linked.txs 5).locate 0 = none ∧ (after (.readError 0) (reading opened)).hau.engine = .halted := by
  decide +kernel

theorem witness_EntryTimersExpire :
    let late : SendEntry := { awaiting 1 with retries := 2 }
    let s := withList 5 [awaiting 0, late] 2 (withStream 5 .opened linked)
    let d := withList 5 [awaiting 0, late] 2 (withStream 5 .draining linked)
    opened.hau.engine ≠ .halted ∧ (opened.txs 5).locate 2 = some (held 2) ∧ (held 2).state = .held ∧
      (held 2).holdoffTimer = .running 50 ∧ (s.txs 5).locate 0 = some (awaiting 0) ∧
      (awaiting 0).state = .awaiting ∧ (awaiting 0).ackTimer = .running 200 ∧
      (awaiting 0).retries + 1 ≠ s.rp.config.retryLimit ∧ (s.txs 5).locate 1 = some late ∧
      late.retries + 1 = s.rp.config.retryLimit ∧ (s.stream 5).state = .opened ∧ (d.stream 5).state = .draining ∧
      FencesUnsettled s := by decide +kernel

/-- Slices of 256 and of 188 bytes. -/
def middle : SliceUnit := ⟨5, 4, 0, 0, 1, false, List.replicate 256 0⟩
def final : SliceUnit := ⟨5, 4, 0, 0, 2, true, List.replicate 188 0⟩

/-- The slice is of the stream's generation and window and passes the format check. -/
abbrev InWindow (s : State) (u : SliceUnit) : Prop :=
  HearsUp s 0 ∧ ((s.stream u.stream).state = .opened ∨ (s.stream u.stream).state = .draining) ∧
  u.gen = (s.stream u.stream).gen ∧ u.index.toNat < 64 ∧
  (if u.last then 1 ≤ u.payload.length ∧ u.payload.length ≤ 256 else u.payload.length = 256) ∧
  (u.msn - (s.rxs u.stream).rxExpected).toNat < 8

theorem witness_SliceMerges :
    let c := context 0 .assembling 1 none 1 6
    let s := landing [c] (List.replicate 15 (.data 0 0 []))
    let t := opened.setRxs 5 { opened.rxs 5 with bufferList := [buffer 1 700] }
    InWindow s middle ∧ InWindow s final ∧ s.contextFor 5 0 = some c ∧ s.hau.writeQueue.length < 16 ∧
      c.state = .assembling ∧ c.received.getLsbD 1 = false ∧ c.received.getLsbD 2 = false ∧
      256 * 1 + 256 ≤ c.buffer.capacity ∧ 256 * 2 + 188 ≤ c.buffer.capacity ∧
      (∀ k < 64, 2 < k → c.received.getLsbD k = false) ∧ c.lastSlice = none ∧
      InWindow t middle ∧ t.contextFor 5 0 = none ∧ (t.rxs 5).bufferList = buffer 1 700 :: [] ∧
      t.re.contexts.length < 128 := by decide +kernel

theorem witness_SliceIsDeferred :
    let full : State := { opened.setRxs 5 { opened.rxs 5 with bufferList := [buffer 1 700] } with
      re.contexts := (List.range 128).map fun n => ⟨6, BitVec.ofNat 8 n, .assembling, buffer 1 1, 0, none, 0, n⟩ }
    InWindow opened middle ∧ opened.contextFor 5 0 = none ∧ (opened.rxs 5).bufferList = [] ∧
      InWindow full middle ∧ full.contextFor 5 0 = none ∧ 128 ≤ full.re.contexts.length := by decide +kernel

/-- Windows at their edges (8, 247 and 248), each state of a context, and each slice an ASSEMBLING one meets. -/
theorem witness_SliceIsAnsweredOrDropped :
    let good (u : SliceUnit) : Prop := u.index.toNat < 64 ∧
      (if u.last then 1 ≤ u.payload.length ∧ u.payload.length ≤ 256 else u.payload.length = 256)
    let at_ (r : Msn) (h : List (Msn × DeliveryOutcome)) : State :=
      (opened.setRxs 5 { opened.rxs 5 with rxExpected := r }).setStream 5 { opened.stream 5 with history := h }
    let with_ (x : ContextState) (n : Nat) := landing [context 0 x 1 (some (3, 9)) n 6] []
    let full := landing [context 0 .assembling 1 none 1 6] (List.replicate 16 (.data 0 0 []))
    HearsUp opened 0 ∧ good middle ∧ good final ∧ ¬good { final with payload := [] } ∧
    ¬good { middle with index := 64 } ∧ ((bare .faulted).stream 5).state = .faulted ∧
    ((bare .opening).stream 5).state = .opening ∧ (3 : Gen) ≠ (opened.stream 5).gen ∧
    ((0 : Msn) - ((at_ 248 []).rxs 5).rxExpected).toNat = 8 ∧ ((0 : Msn) - ((at_ 9 []).rxs 5).rxExpected).toNat = 247 ∧
    ((0 : Msn) - ((at_ 8 []).rxs 5).rxExpected).toNat = 248 ∧
    ((((at_ 8 [(0, .ack)]).stream 5).history.find? fun p => decide (p.1 = 0)).map Prod.snd) = some .ack ∧
    ((((at_ 8 [(0, .tooLong)]).stream 5).history.find? fun p => decide (p.1 = 0)).map Prod.snd) = some .tooLong ∧
    (∀ x ∈ [ContextState.assembling, .landing, .complete, .oversize],
      HearsUp (with_ x 1) 0 ∧ (with_ x 1).contextFor 5 0 = some (context 0 x 1 (some (3, 9)) 1 6)) ∧
    ContextsInWindow (with_ .assembling 1) ∧ ContextsInWindow (with_ .assembling 0) ∧
    (1#64).getLsbD 0 = true ∧ (1#64).getLsbD 2 = false ∧ (3 : Nat) ≠ 2 ∧
    ¬(256 * 4 + 256 ≤ (buffer 0xB1 1024).capacity) ∧ 16 ≤ full.hau.writeQueue.length := by decide +kernel

theorem witness_DataWriteDeparts :
    let q : List HostWrite := [.data 6 0x9000 [1]]
    let s (x : ContextState) (n : Nat) := landing [context 0 x 3 (some (1, 9)) n 6] q
    (s .landing 1).hau.writeQueue = .data 6 0x9000 [1] :: [] ∧ (∀ c ∈ (landing [] q).re.contexts, c.occupancy ≠ 6) ∧
    (∀ x ∈ [ContextState.assembling, .landing, .oversize],
      (s x 1).contextOf 6 = some (context 0 x 3 (some (1, 9)) 1 6) ∧ ContextsInWindow (s x 1)) ∧
    (s .landing 2).contextOf 6 = some (context 0 .landing 3 (some (1, 9)) 2 6) ∧ ContextsInWindow (s .landing 2) := by
  decide +kernel

theorem witness_OpeningHandshakes :
    let s := (bare .opening).setStream 5
      { (bare .opening).stream 5 with openPending := some 9, syncTimer := .running 3 }
    let a : State := { s with rp.config.role := .a }
    HearsUp s 0 ∧ (s.stream 5).state = .opening ∧ (4 : Gen) = (s.stream 5).gen ∧ (5 : Gen) ≠ (s.stream 5).gen ∧
      s.rp.config.role = .b ∧ (s.stream 5).openPending = some 9 ∧ HearsUp a 0 ∧ a.rp.config.role = .a ∧
      s.hau.engine ≠ .halted ∧ (s.stream 5).syncTimer = .running 3 := by decide +kernel

/-- The notice queue with one place left and with none, on a link that is UP; and a link that is DOWN. -/
theorem witness_OtherSyncsAnsweredOrIgnored :
    let queued (n : Nat) : State := { linked with lm.noticeQueue := List.replicate n (.ack 5 4 1) }
    HearsUp opened 0 ∧ (opened.stream 5).state = .opened ∧
    (4 : Gen) = (opened.stream 5).gen ∧ (draining.stream 5).state = .draining ∧ HearsUp (bare .faulted) 0 ∧
    ((bare .faulted).stream 5).state = .faulted ∧
    ((queued 31).produceNotice (.ack 5 4 1)).lm.noticeQueue.length = 32 ∧
    (queued 32).produceNotice (.ack 5 4 1) = queued 32 ∧ State.reset.lm.linkState = .down := by decide +kernel

theorem witness_SyncResyncs : (∀ s ∈ [opened, draining], HearsUp s 0 ∧ (5 : Gen) ≠ (s.stream 5).gen ∧
    FencesUnsettled s) ∧ (opened.stream 5).state = .opened ∧ (draining.stream 5).state = .draining := by
  decide +kernel

theorem witness_SyncAckOpens :
    let s := (bare .opening).setStream 5 { (bare .opening).stream 5 with openPending := some 9 }
    HearsUp s 0 ∧ (s.stream 5).state = .opening ∧ (4 : Gen) = (s.stream 5).gen ∧ (s.stream 5).openPending = some 9 ∧
      HearsUp opened 0 ∧ (opened.stream 5).state ≠ .opening ∧ (5 : Gen) ≠ (s.stream 5).gen := by decide +kernel

theorem witness_LaneTransmits :
    let s := linked.setLane 1 { laneUp with txQueue := [.idle] }
    (linked.lane 3).state = .off ∧ (linked.lane 2).state = .seeking ∧
      ((configured laneAligned laneUp laneUp).lane 0).state = .aligned ∧
      ((linked.lane 0).state = .up ∧ (linked.lane 0).txQueue = []) ∧
      (s.lane 1).state = .up ∧ (s.lane 1).txQueue = .idle :: [] := by decide +kernel

theorem witness_AlignTrainsLane :
    let count (n : Nat) := linked.setLane 2 { laneSeeking with validRun := n }
    let a := linked.setLane 2 laneAligned
    let down : State := { configured laneAligned laneSeeking laneSeeking with lm.partnerEpoch := 0 }
    linked.hau.engine ≠ .halted ∧ (3 : Byte) ≠ 0 ∧ ((count 6).lane 2).validRun < 7 ∧ ((count 7).lane 2).validRun = 7 ∧
      ((count 7).lane 2).state = .seeking ∧ Role.a ≠ linked.rp.config.role ∧ ¬(Role.b ≠ linked.rp.config.role) ∧
      (a.lane 2).state = .aligned ∧ LinkAgrees a ∧ a.lm.linkState = .up ∧ a.lm.partnerEpoch = 9 ∧
      (down.lane 0).state = .aligned ∧ LinkAgrees down ∧ down.lm.linkState = .down ∧ down.lm.partnerEpoch = 0 ∧
      (linked.lane 0).state = .up := by decide +kernel

/-- A partner restart while the link is UP and while it is DOWN, with streams in every state and a pending fence. -/
theorem witness_RestartFaultsStreams :
    let streams (u : State) : State :=
      withStream 1 .draining (withStream 2 .opening (withStream 3 .faulted (withStream 4 .releasing u)))
    let fence : FenceRecord := ⟨1, .one 5, Vector.ofFn fun i => if i = 5 then 4 else 0, 0, 4⟩
    let s : State := { streams (opened.setLane 2 laneAligned) with ft := [fence] }
    let down : State := { configured laneSeeking laneSeeking laneAligned with lm.partnerEpoch := 9 }
    (∀ u ∈ [s, down], u.hau.engine ≠ .halted ∧ (u.lane 2).state = .aligned ∧ Role.a ≠ u.rp.config.role ∧
      u.lm.partnerEpoch ≠ 0 ∧ u.lm.partnerEpoch ≠ 4 ∧ FencesUnsettled u) ∧ (4 : Byte) ≠ 0 ∧
      s.lm.linkState = .up ∧ down.lm.linkState = .down ∧ (s.stream 5).state = .opened ∧
      (s.stream 1).state = .draining ∧ (s.stream 2).state = .opening ∧ (s.stream 3).state = .faulted ∧
      (s.stream 4).state = .releasing ∧ (s.stream 0).state = .closed := by decide +kernel

/-- Lane 1 in each state beside a lane that is UP; lane 0 as the last UP lane and as an ALIGNED one on a link that is
DOWN; and a part that is HALTED. -/
theorem witness_LaneReturnsToSeeking :
    let s (r : Lane) := linked.setLane 1 r
    let last := linked.setLane 1 laneSeeking
    let down := configured laneAligned laneSeeking laneSeeking
    (∀ u ∈ [s laneUp, s laneAligned, s laneSeeking, last, down], u.hau.engine ≠ .halted ∧ LinkAgrees u) ∧
    (7 : Byte) ≠ 0 ∧ ((s laneUp).lane 1).state = .up ∧ ((s laneAligned).lane 1).state = .aligned ∧
    (last.lane 0).state = .up ∧ (down.lane 0).state = .aligned ∧ (linked.lane 2).state = .seeking ∧
    (linked.lane 3).state = .off ∧ ((s laneUp).lane 1).silenceTimer = .running 64 ∧
    3 ≤ ((s { laneUp with badRun := 3 }).lane 1).badRun ∧ ((s { laneUp with badRun := 2 }).lane 1).badRun < 3 ∧
    (after (.readError 0) (reading linked)).hau.engine = .halted := by decide +kernel

theorem witness_LastLaneTakesLinkDown :
    let s (n : Nat) := (opened.setLane 1 laneSeeking).setLane 0 { laneUp with badRun := n }
    (∀ n ∈ [0, 3], (s n).hau.engine ≠ .halted ∧ (s n).lm.linkState = .up ∧ ((s n).lane 0).state = .up ∧
      (∀ k, k ≠ 0 → ((s n).lane k).state ≠ .up) ∧ ((s n).lane 0).silenceTimer = .running 64) ∧ (7 : Byte) ≠ 0 ∧
      3 ≤ ((s 3).lane 0).badRun := by decide +kernel

/-- One slot is free. -/
theorem witness_EventsAreGranted :
    let s : State := { opened with cp.unconsumed := 13, cp.reserved := 2 }
    let l : State := { s with lm.linkEvent := 1 }
    let t := s.setStream 9 { s.stream 9 with event := some ⟨.resynced, 1, 1⟩ }
    s.hau.engine ≠ .halted ∧ s.cp.unconsumed + s.cp.reserved < 2 ^ s.hau.cqRing.order.toNat ∧ l.lm.linkEvent ≠ 0 ∧
      t.lm.linkEvent = 0 ∧ (t.stream 9).event = some ⟨.resynced, 1, 1⟩ ∧ (∀ j < 9, (t.stream j).event = none) := by
  decide +kernel

/-- The stream that had the last grant is the last in turn. -/
theorem witness_ReleaseListIsGranted :
    let e : ReleaseEntry := ⟨buffer 1 1, .bufferReturn 4 .streamClosed⟩
    let s : State := { (bare .releasing).setRxs 5 { RxStream.reset with releaseList := [e] } with
      cp.releasePointer := 5 }
    s.hau.engine ≠ .halted ∧ s.cp.unconsumed + s.cp.reserved < 2 ^ s.hau.cqRing.order.toNat ∧ s.lm.linkEvent = 0 ∧
      (∀ j, (s.stream j).event = none) ∧
      FirstInTurn s.cp.releasePointer 5 (fun j => (s.rxs j).releaseList ≠ []) ∧
      (s.rxs 5).releaseList = e :: [] := by decide +kernel

theorem witness_RecordsAndInterruptLeave :
    let p : PostedRecord := ⟨0x40, true, .streamEvent 2 ⟨.resynced, 1, 1⟩⟩
    let s (n : Nat) : State := { linked with
      cp.backlog := [p], hau.writeQueue := List.replicate n (.record p), hau.interruptOwed := some 0 }
    (s 15).hau.engine ≠ .halted ∧ (s 15).cp.backlog = p :: [] ∧ (s 15).hau.writeQueue.length < 16 ∧
      16 ≤ (s 16).hau.writeQueue.length ∧ (s 1).hau.writeQueue = .record p :: [] ∧
      (s 1).hau.interruptOwed = some 0 ∧ linked.hau.interruptOwed ≠ some 0 := by decide +kernel

theorem witness_UnitsReadBack : (9 : Byte) ≠ 0 ∧ final.payload.length ≤ 256 ∧
    ¬(4 ≤ ([1, 2, 3] : List Byte).length) := by decide +kernel

/-- A state of the invariants that is not the reset state, and a step from it. -/
def lively : State :=
  { landing [context 0 .assembling 1 none 1 6] [.data 6 0x9000 [1]] with
    cp.reserved := 4, pending := [.ackReceived 0 5 4 1] }

theorem witness_invariants_of_the_part : LinkAgrees lively ∧ LanesAgree lively ∧ QueuesBounded lively ∧
    ListsBounded lively ∧ EngineAgrees lively ∧ HaltedQuiet lively := by decide +kernel

theorem witness_invariants_of_the_streams : SlotsAccounted lively ∧ ContextsInWindow lively ∧ EndedIsEmpty lively := by
  decide +kernel

theorem witness_invariants_of_the_entries : StreamRecordsLawful lively ∧ EntryTimersLawful lively ∧
    FencesAwait lively := by decide +kernel

theorem witness_lively_steps :
    step lively = .next (after (.ackReceived 0 5 4 1) { lively with pending := [] }) := rfl

/-- The same state for the law of the transmit lists. -/
theorem witness_StepKeepsTransmitListsLawful : TransmitListsLawful lively := by decide +kernel

theorem witness_PartnerEpochChangesOnlyByAlign :
    let s := configured laneAligned laneSeeking laneSeeking
    let t := after (.alignReceived 0 .a 9 true) s
    exec (.alignReceived 0 .a 9 true) s = .next t ∧ t.lm.partnerEpoch ≠ s.lm.partnerEpoch := ⟨rfl, by decide +kernel⟩

theorem witness_EngineMovesAsTold :
    let s := reading linked
    let t := after (.readError 0) s
    exec (.readError 0) s = .next t ∧ t.hau.engine ≠ s.hau.engine := ⟨rfl, by decide +kernel⟩

theorem witness_HaltedFreezes :
    let s := after (.readError 0) (reading opened)
    s.hau.engine = .halted ∧ HaltedQuiet s ∧ (Instr.ackReceived 0 5 4 1) ≠ .portReset ∧
      exec (.ackReceived 0 5 4 1) s = .next s := ⟨by decide +kernel, by decide +kernel, by decide, by rfl⟩

theorem witness_StreamStatesMoveLawfully :
    let t := after (.rejectNotOpenReceived 0 5 4 2) opened
    exec (.rejectNotOpenReceived 0 5 4 2) opened = .next t ∧ (t.stream 5).state = .faulted ∧
      (opened.stream 5).state = .opened := ⟨rfl, by decide +kernel, by decide +kernel⟩

end Sys2Proof.Tests
end

namespace Sys2Proof.Machine

set_option Elab.async false -- one thread for each lemma would need more memory than the check allows

/-! ### Both resets -/

section
variable (rq cq : Ring) (s : State)
theorem State.resetWith_stream (i : StreamId) : (s.resetWith rq cq).stream i = StreamRecord.reset := by
  simp [resetWith, stream, State.reset]
theorem State.resetWith_txs (i : StreamId) : (s.resetWith rq cq).txs i = TxStream.reset := by
  simp [resetWith, txs, State.reset, TransmitEngine.reset]
theorem State.resetWith_rxs (i : StreamId) : (s.resetWith rq cq).rxs i = RxStream.reset := by
  simp [resetWith, rxs, State.reset, ReceiveEngine.reset]
theorem State.resetWith_slot (k : SlotId) : (s.resetWith rq cq).slot k = none := by
  simp [resetWith, slot, State.reset, TransmitEngine.reset]
theorem State.resetWith_lane (l : LaneId) : (s.resetWith rq cq).lane l = Lane.reset := by
  simp [resetWith, lane, State.reset, LinkManager.reset]
theorem State.resetWith_cqHead : (s.resetWith rq cq).cqHead = 0 := by
  simp [resetWith, State.reset, cqHead, CompletionPoster.reset]
end

/-- Both resets are `State.resetWith`, and differ in the rings alone (R179). -/
theorem exec_reset {c : Instr} (h : c = .portReset ∨ c = .softReset) (s : State) :
    ∃ rq cq, exec c s = .next (s.resetWith rq cq) ∧
      (c = .portReset → rq = Ring.reset ∧ cq = Ring.reset) ∧
      (c = .softReset → rq = s.hau.rqRing ∧ cq = s.hau.cqRing) := by
  rcases h with rfl | rfl
  · exact ⟨_, _, rfl, fun _ => ⟨rfl, rfl⟩, nofun⟩
  · exact ⟨_, _, rfl, nofun, fun _ => ⟨rfl, rfl⟩⟩

/-- Settles O3: both resets are `resetWith`, which replaces every block but the rings; only the rings differ. -/
theorem resetsGiveResetValues : Obligations.ResetsGiveResetValues := by
  intro s c hc
  obtain ⟨rq, cq, h, hport, hsoft⟩ := exec_reset hc s
  refine ⟨_, h, s.resetWith_stream rq cq, s.resetWith_txs rq cq, s.resetWith_slot rq cq, rfl, rfl, rfl,
    s.resetWith_rxs rq cq, rfl, rfl, s.resetWith_lane rq cq, rfl, rfl, rfl, rfl, rfl, rfl, rfl, rfl, rfl, rfl, rfl,
    rfl, s.resetWith_cqHead rq cq, rfl, rfl, rfl, rfl, rfl, rfl, rfl, rfl, rfl, rfl, ?_, ?_⟩
  · exact hport
  · exact hsoft

/-! ### Synchronisation notices -/

/-- Where a produced notice goes (R125). -/
theorem State.produceNotice_eq (n : Notice) (s : State) : s.produceNotice n = { s with
    lm.noticeQueue :=
      if s.lm.linkState = .up ∧ s.lm.noticeQueue.length < 32 then s.lm.noticeQueue ++ [n]
      else s.lm.noticeQueue } := by
  by_cases h : s.lm.linkState = .up ∧ s.lm.noticeQueue.length < 32 <;>
    simp [produceNotice, Config.noticeQueueLimit, h]

theorem exec_syncReceived {s : State} {l : LaneId} (h : HearsUp s l) (i : StreamId) (g : Gen) :
    exec (.syncReceived l i g) s = .next ((s.heard l).syncArrives i g) :=
  congrArg _ (State.hearUnit_up h _)

theorem exec_syncAckReceived {s : State} {l : LaneId} (h : HearsUp s l) (i : StreamId) (g : Gen) :
    exec (.syncAckReceived l i g) s = .next ((s.heard l).syncAckArrives i g) :=
  congrArg _ (State.hearUnit_up h _)

/-- Settles O36, by the stream's state; `produceNotice_eq` says where a notice goes. -/
theorem otherSyncsAnsweredOrIgnored : Obligations.OtherSyncsAnsweredOrIgnored := by
  intro s l i g hup
  simp only [exec_syncReceived hup]
  refine ⟨?_, ?_, fun u n => u.produceNotice_eq n⟩
  · rintro (h | h) rfl <;> simp [State.syncArrives, State.syncOpened, h]
  · rintro (h | h | h) <;> simp [State.syncArrives, h]

/-- Finishing the OPEN that is pending (R7, R8, R16). -/
theorem State.finishOpen_eq {i : StreamId} {tag : Tag} {s : State} (h : (s.stream i).openPending = some tag)
    (status : Status) :
    s.finishOpen i status = (s.setStream i { s.stream i with openPending := none }).withPosted
      [doneFor .openStream i tag status (.openDone (s.stream i).syncSent)] := by
  simp only [finishOpen, h, postDone, postReserved_eq]
  rfl

/-- Settles O38, by the two branches of the comparison of state and generation. -/
theorem syncAckOpens : Obligations.SyncAckOpens := by
  intro s l i g hup
  simp only [exec_syncAckReceived hup]
  refine ⟨fun tag hs hg hp => ?_, fun h => ?_⟩
  · rw [State.syncAckArrives, if_pos ⟨hs, hg⟩, State.finishOpen_eq (tag := tag) (by simpa using hp)]
    simp
  · rw [State.syncAckArrives, if_neg (by simpa [or_iff_not_imp_left] using h)]

/-- Settles O35, case by case of R8's table and the timer; an adopted generation finishes the OPEN (`finishOpen_eq`). -/
theorem openingHandshakes : Obligations.OpeningHandshakes := by
  intro s l i g ho
  refine ⟨fun hup hg => ?_, fun tag hup hg hr hp => ?_, fun hup hg hr => ?_, fun left he ht => ?_⟩
  · simp [exec_syncReceived hup, State.syncArrives, ho, State.syncOpening, hg]
  · rw [exec_syncReceived hup]
    simp only [State.syncArrives, State.heard_stream, ho, State.syncOpening, hg, if_false, State.heard_rp, hr,
      State.adopt, State.setStream_produceNotice, State.setStream_twice]
    rw [State.finishOpen_eq (tag := tag) (by simpa using hp)]
    simp [State.setStream_produceNotice]
  · simp [exec_syncReceived hup, State.syncArrives, ho, State.syncOpening, hg, hr, State.sendSync]
  · simp [exec, execSyncTimerExpiry, State.syncExpiry, State.isHalted, he, ho, ht, Timer.isRunning, State.sendSync]

end Sys2Proof.Machine

namespace Sys2Proof.Machine

set_option Elab.async false -- one thread for each lemma would need more memory than the check allows

/-! ### Taking OPEN and CLOSE -/

/-- An OPEN record names its stream and passes the checks of a configured part (R142 to R145). -/
theorem exec_openStream {s : State} {q : ReadEntry} (h : AwaitsRecord s q) (hc : s.rp.config.configured = true)
    (i : StreamId) (tag : Tag) :
    exec (.openStream (streamByte i) tag) s = .next ((s.recordTaken q).takeOpen i tag) := by
  simp [exec, execOpenStream, State.completeRecordRead_eq h, State.processRecord, RequestRecord.check,
    RequestRecord.reservedZero, RequestRecord.inRange, cleanRecord, hc, State.dispatch]

theorem closeModeOf_code (mode : CloseMode) : closeModeOf mode.code = some mode := by
  cases mode <;> decide

theorem exec_closeStream {s : State} {q : ReadEntry} (h : AwaitsRecord s q) (hc : s.rp.config.configured = true)
    (i : StreamId) (tag : Tag) (mode : CloseMode) :
    exec (.closeStream (streamByte i) tag mode.code) s = .next ((s.recordTaken q).takeClose i tag mode) := by
  simp [exec, execCloseStream, State.completeRecordRead_eq h, State.processRecord, RequestRecord.check,
    RequestRecord.reservedZero, RequestRecord.inRange, cleanRecord, hc, State.dispatch, closeModeOf_code]

/-- Settles O13: every state but CLOSED takes the one refusing branch of the OPEN. -/
theorem openIsTaken : Obligations.OpenIsTaken := by
  intro s q i tag hq hc
  rw [exec_openStream hq hc]
  refine ⟨fun hs => ?_, fun hs => ?_⟩
  · simp [State.takeOpen, hs, State.resetSequences, State.sendSync, satInc]
  · congr 1
    cases hx : (s.stream i).state with
    | closed => exact absurd hx hs
    | _ => simp [State.takeOpen, hx, State.postDone, State.postReserved_eq, doneFor]

/-- The interrupt after an event that halts a part which was not HALTED: whatever is owed awaits nothing (R187, R188). -/
theorem State.judgeInterrupt_halted {s : State} (he : s.hau.engine ≠ .halted) (u : State)
    (hu : u.hau.engine = .halted) (hi : u.hau.intEnable = s.hau.intEnable) (hn : u.unwrittenRecords = 0) :
    State.judgeInterrupt s.interruptCondition u = { u with hau.interruptOwed :=
      if s.hau.intEnable then if 0 < s.cp.unconsumed then u.hau.interruptOwed else some 0 else none } := by
  have h : u.interruptCondition = s.hau.intEnable := by simp [interruptCondition, hu, hi]
  have h' : s.interruptCondition = (s.hau.intEnable && decide (0 < s.cp.unconsumed)) := by
    simp [interruptCondition, he]
  rw [judgeInterrupt, h, h', oweInterrupt, hn]
  by_cases hb : s.hau.intEnable <;> by_cases hc : 0 < s.cp.unconsumed <;> simp [hb, hc]

/-- Settles O22: the halt is the same for both failures, and the interrupt is judged with no record left to write
(`judgeInterrupt_halted`). -/
theorem failedReadHalts : Obligations.FailedReadHalts := by
  intro s r hr he
  refine ⟨?_, fun ht => ?_⟩
  · have h : exec (.readError r.id) s = .next ((s.dropRead r.id).halt .readError r.address) := by
      simp [exec, execReadError, State.readErrors, State.isHalted, he, hr]
    exact h.trans (congrArg _ (State.judgeInterrupt_halted (s := s.dropRead r.id) he _ rfl rfl rfl))
  · have h : exec (.readTimeout r.id) s = .next (s.halt .readTimeout r.address) := by
      simp [exec, execReadTimeout, State.readTimesOut, State.isHalted, he, hr, ht]
    exact h.trans (congrArg _ (State.judgeInterrupt_halted he _ rfl rfl rfl))

/-! ### Grants -/

theorem State.canGrant_eq {s : State} (he : s.hau.engine ≠ .halted)
    (hf : s.cp.unconsumed + s.cp.reserved < 2 ^ s.hau.cqRing.order.toNat) : s.canGrant = true := by
  simp [canGrant, freeSlots, cqSize, Ring.size, isHalted, he]
  omega

/-- The lowest stream with a recorded event has the claim of rank 2 (R161). -/
theorem State.eventClaim_eq {s : State} {i : StreamId} (hi : (s.stream i).event.isSome)
    (hj : ∀ j < i, (s.stream j).event = none) : s.eventClaim = some i := by
  rw [eventClaim, List.find?_eq_some_iff_getElem]
  refine ⟨hi, i.val, by simp, by simp, fun j hlt => ?_⟩
  simp [hj ⟨j, by omega⟩ hlt]

/-- Settles O44: a pending link event disables every claim below it, and the lowest recorded stream event those below
that (R161). -/
theorem eventsAreGranted : Obligations.EventsAreGranted := by
  intro s he hf
  have hg := State.canGrant_eq he hf
  refine ⟨fun hl => ?_, fun i e hl hi hj => ?_⟩
  · have hz : decide (s.lm.linkEvent = 0) = false := decide_eq_false hl
    have hb : s.belowLinkEnabled = false := by rw [State.belowLinkEnabled, hz, Bool.and_false]
    have hr : s.reservationEnabled = false := by simp only [State.reservationEnabled, hz, Bool.and_false, Bool.false_and]
    have hk : s.linkGrantEnabled = true := by rw [State.linkGrantEnabled, hg, decide_eq_true hl]; rfl
    simp only [exec, execLinkEventGrant, execStreamEventGrant, execReleaseListGrant, execReservationGrant,
      State.streamEventGrant, State.releaseListGrant, hb, hr, hk, State.grantLinkEvent, State.postRecord_eq,
      Bool.false_and, Bool.false_eq_true, if_false, if_true, and_self]
  · have hc := State.eventClaim_eq (by simp [hi]) hj
    have hb : s.belowLinkEnabled = true := by simp [State.belowLinkEnabled, hg, hl]
    have hr : s.reservationEnabled = false := by simp [State.reservationEnabled, hc]
    simp only [exec, execStreamEventGrant, execReleaseListGrant, execReservationGrant, State.streamEventGrant,
      State.releaseListGrant, hb, hr, hc, hi, State.grantStreamEvent, State.postRecord_eq, Option.isNone_some,
      Bool.and_false, Bool.false_eq_true, if_false, if_true, and_true]
    rfl

/-- `FirstInTurn` names what a search in turn finds. -/
theorem find?_turnAfter {n : Nat} [NeZero n] {p k : Fin n} {P : Fin n → Prop} [DecidablePred P]
    (h : FirstInTurn p k P) : (turnAfter p).find? (fun j => decide (P j)) = some k := by
  obtain ⟨hk, hj⟩ := h
  have hget : ∀ a : Fin n, p + 1 + (a - (p + 1)) = a := fun a => by abel
  rw [List.find?_eq_some_iff_getElem]
  refine ⟨by simpa using hk, (k - (p + 1)).val, by simp [turnAfter], by simp [turnAfter], fun m hm => ?_⟩
  have := hj (p + 1 + ⟨m, by omega⟩) (by simpa using hm)
  simpa [turnAfter] using this

/-- A RELEASING stream with an empty release list is CLOSED and its pending CLOSEs finish in order (R18). -/
theorem State.closeIfReleased_eq (i : StreamId) (s : State) :
    s.closeIfReleased i =
      if (s.stream i).state = .releasing ∧ (s.rxs i).releaseList = [] then
        (s.setStream i { s.stream i with state := .closed, closePending := [] }).withPosted
          (closesDone i (s.stream i).closePending (s.stream i).releaseCause)
      else s := by
  simp only [closeIfReleased, becomeClosed, postCloses_eq]

/-- A granted release list loses its head, and with its last record a RELEASING stream closes (R18, R64, R163). -/
theorem State.grantRelease_eq (i : StreamId) (e : ReleaseEntry) (rest : List ReleaseEntry) (s : State) :
    s.grantRelease i e rest =
      let u : State := { (s.withGranted (e.completion i)).setRxs i { s.rxs i with releaseList := rest } with
        cp.releasePointer := i }
      if (s.stream i).state = .releasing ∧ rest = [] then
        (u.setStream i { s.stream i with state := .closed, closePending := [] }).withPosted
          (closesDone i (s.stream i).closePending (s.stream i).releaseCause)
      else u := by
  have hr : ({ (s.withGranted (e.completion i)).setRxs i { s.rxs i with releaseList := rest } with
      cp.releasePointer := i } : State).rxs i = { s.rxs i with releaseList := rest } :=
    State.setRxs_rxs_self _ _ _
  rw [grantRelease, closeIfReleased_eq, postRecord_eq]
  exact if_congr (and_congr_right' (iff_of_eq (congrArg (fun r => r.releaseList = []) hr))) rfl rfl

/-- Settles O45: the first stream in turn holds the claim (`find?_turnAfter`), and `grantRelease_eq` is its grant. -/
theorem releaseListIsGranted : Obligations.ReleaseListIsGranted := by
  intro s i b x rest he hf hl hev hfirst hlist
  have hb : s.belowLinkEnabled = true := by simp [State.belowLinkEnabled, State.canGrant_eq he hf, hl]
  have hc : s.eventClaim = none := by simp [State.eventClaim, hev]
  have hr : s.releaseClaim = some i := by
    rw [State.releaseClaim, ← find?_turnAfter hfirst]
    congr; funext j
    cases (s.rxs j).releaseList <;> simp
  have hx : exec .releaseListGrant s = .next (s.grantRelease i ⟨b, x⟩ rest) := by
    simp [exec, execReleaseListGrant, State.releaseListGrant, hb, hc, hr, hlist]
  rw [hx, State.grantRelease_eq]
  cases x <;> rfl

end Sys2Proof.Machine

namespace Sys2Proof.Machine

set_option Elab.async false -- one thread for each lemma would need more memory than the check allows

/-! ### The end of a stream, from the states in which commands begin it -/

/-- Records posted before a stream ends are posted before those of its end, whatever entries fail at it. -/
theorem State.ended_posted_first (i : StreamId) (first : List Completion) (failed : List SendEntry)
    (flush : List ReleaseEntry) (pend : List (Tag × CloseMode)) (cause : ReleaseCause) (s : State) :
    State.ended i [] failed flush pend cause (s.withPosted first) = s.ended i first failed flush pend cause := by
  by_cases h : first = []
  · subst h
    rfl
  · simp only [ended, withPosted_ft, List.nil_append, List.append_assoc, ← withPosted_append]
    congr 1
    · simp [listReturned]
    · simp only [listReturned, emptied, withPosted, h, if_false]
      rfl

/-- The end of a stream overwrites the stream's state and its pending CLOSEs. -/
theorem State.ended_setStream (i : StreamId) (r : StreamRecord) (x : StreamState) (p : List (Tag × CloseMode))
    (first : List Completion) (failed : List SendEntry) (flush : List ReleaseEntry)
    (pend : List (Tag × CloseMode)) (cause : ReleaseCause) (s : State) :
    State.ended i first failed flush pend cause (s.setStream i { r with state := x, closePending := p }) =
      (s.setStream i r).ended i first failed flush pend cause := by
  simp only [ended, listReturned, emptied, setStream_stream_self, setStream_rxs, setStream_txs, setStream_ft]
  congr 1
  simp [setStream, setTxs, setRxs, rxs]

theorem State.ended_of_taken (i : StreamId) (x : StreamState) (p : List (Tag × CloseMode))
    (first : List Completion) (failed : List SendEntry) (flush : List ReleaseEntry)
    (pend : List (Tag × CloseMode)) (cause : ReleaseCause) (s : State) :
    State.ended i first failed flush pend cause (s.setStream i { s.stream i with state := x, closePending := p }) =
      s.ended i first failed flush pend cause := by
  rw [ended_setStream, setStream_same]

/-- A flush of a stream without contexts gives nothing back (R88). -/
theorem State.flushed_of_no_context {i : StreamId} {s : State} (h : ∀ c ∈ s.re.contexts, c.stream ≠ i)
    (reason : ReturnReason) : s.flushed i reason = [] := by
  have hc : s.contextsOf i = [] := by simpa [contextsOf, List.filter_eq_nil_iff] using h
  simp [flushed, contextsInOrder, hc]

theorem State.flush_of_no_context {i : StreamId} {s : State} (h : ∀ c ∈ s.re.contexts, c.stream ≠ i)
    (reason : ReturnReason) : s.flush i reason = s := by
  have hf : (s.re.contexts.filter fun c => decide (c.stream ≠ i)) = s.re.contexts := by
    simpa [List.filter_eq_self] using h
  have he : s.flush i reason = State.appendRelease i (s.flushed i reason)
      { s with re.contexts := s.re.contexts.filter fun c => decide (c.stream ≠ i) } := rfl
  rw [he, flushed_of_no_context h, hf, appendRelease, List.append_nil]
  exact setRxs_same s i

@[simp] theorem State.freeSlotsOfStream_stream (s : State) (i j : StreamId) :
    (s.freeSlotsOfStream i).stream j = s.stream j := rfl

/-- A flush reads the stream's generation, and nothing else of the stream record (R88 to R90). -/
theorem State.flushed_setStream {i : StreamId} {r : StreamRecord} {s : State} (hg : r.gen = (s.stream i).gen)
    (reason : ReturnReason) : (s.setStream i r).flushed i reason = s.flushed i reason := by
  have hc : (s.setStream i r).contextsInOrder i = s.contextsInOrder i := rfl
  simp only [flushed, hc, setStream_stream_self, hg]

/-! ### The branches of a CLOSE -/

/-- A CLOSE(IMMEDIATE) on an OPEN or DRAINING stream (R15). -/
theorem State.closeNow_addClose {i : StreamId} {s : State} (h : FencesUnsettled s) (tag : Tag) (mode : CloseMode) :
    (s.addClose i tag mode).closeNow i = (s.freeSlotsOfStream i).ended i []
      (failedList .closedLocally (s.txs i).list) (s.flushed i .streamClosed)
      ((s.stream i).closePending ++ [(tag, mode)]) .closed := by
  have ht := endFailed_eq (i := i) (cause := .closedLocally) (reason := .streamClosed) (how := .closed)
    (s := s.addClose i tag mode) h
  have hs : (s.addClose i tag mode).freeSlotsOfStream i = (s.freeSlotsOfStream i).setStream i
      { (s.freeSlotsOfStream i).stream i with
        state := (s.stream i).state, closePending := (s.stream i).closePending ++ [(tag, mode)] } := rfl
  have hf : (s.addClose i tag mode).flushed i .streamClosed = s.flushed i .streamClosed := flushed_setStream (by rfl) _
  rw [closeNow, ht, hs, ended_of_taken, hf]
  simp [addClose]

/-- A CLOSE on a stream whose list is empty and that has no slot to free (R14, R17). -/
theorem State.closeIdle_eq {i : StreamId} {s : State} (hl : (s.txs i).list = []) (reason : ReturnReason)
    (x : StreamState) (p : List (Tag × CloseMode)) :
    (((s.setStream i { s.stream i with state := x, closePending := p }).flush i reason).releaseBuffers i).enterReleasing i
      .closed = s.ended i [] [] (s.flushed i reason) p .closed := by
  have hf : (s.setStream i { s.stream i with state := x, closePending := p }).flushed i reason = s.flushed i reason :=
    flushed_setStream (by rfl) _
  rw [flushReleaseEnter_eq _ _ _ _ (by simpa using hl), ended_of_taken, hf, setStream_stream_self]

/-- A CLOSE on an OPENING stream cancels the OPEN first (R16). -/
theorem State.cancelOpening_eq {i : StreamId} {s : State} {tag : Tag} (h : FencesUnsettled s)
    (hc : ∀ c ∈ s.re.contexts, c.stream ≠ i) (hp : (s.stream i).openPending = some tag) :
    s.cancelOpening i =
      ((s.setStream i { s.stream i with openPending := none, syncTimer := .stopped }).freeSlotsOfStream i).ended i
        [doneFor .openStream i tag .cancelled (.openDone (s.stream i).syncSent)]
        (failedList .closedLocally (s.txs i).list) [] (s.stream i).closePending .closed := by
  have hf : (s.setStream i { s.stream i with syncTimer := .stopped }).finishOpen i .cancelled =
      (s.setStream i { s.stream i with openPending := none, syncTimer := .stopped }).withPosted
        [doneFor .openStream i tag .cancelled (.openDone (s.stream i).syncSent)] := by
    rw [finishOpen_eq (tag := tag) (by simpa using hp)]
    simp
  rw [cancelOpening, hf]
  generalize hu : s.setStream i { s.stream i with openPending := none, syncTimer := .stopped } = u
  have hpend : (u.stream i).closePending = (s.stream i).closePending := by simp [← hu]
  have htxs : u.txs i = s.txs i := by simp [← hu]
  have hfu : FencesUnsettled u := by rw [← hu]; exact h
  have hcu : ∀ c ∈ u.re.contexts, c.stream ≠ i := by rw [← hu]; exact hc
  generalize doneFor .openStream i tag .cancelled (.openDone (s.stream i).syncSent) = x
  have hfp : FencesUnsettled (u.withPosted [x]) := by simpa [FencesUnsettled] using hfu
  have hw : (u.withPosted [x]).freeSlotsOfStream i = (u.freeSlotsOfStream i).withPosted [x] := rfl
  have hcp : ∀ c ∈ ((u.withPosted [x]).failList i .closedLocally).re.contexts, c.stream ≠ i := by
    rw [failList_eq _ _ _ hfp, withRetired, withPosted_re]
    simpa [setList, freeSlotsOfStream] using hcu
  rw [← flush_of_no_context hcp .streamClosed, endFailed_eq hfp, flushed_withPosted,
    flushed_of_no_context hcu, withPosted_txs, withPosted_stream, htxs, hpend, hw, ended_posted_first]

/-- Settles O14, one case for each row of R12; a stream that ends does so by `ended`, whatever its posted records. -/
theorem closeIsTaken : Obligations.CloseIsTaken := by
  intro s q i tag hq hc hfu
  have hx := exec_closeStream hq hc i tag
  have hgraceful : exec (.closeStream (streamByte i) tag 0x01) s = .next ((s.recordTaken q).takeClose i tag .graceful) :=
    hx .graceful
  have himmediate : exec (.closeStream (streamByte i) tag 0x02) s = .next ((s.recordTaken q).takeClose i tag .immediate) :=
    hx .immediate
  have hcode : ∀ mode : CloseMode, (if mode = .graceful then (0x01 : Byte) else 0x02) = mode.code := by
    intro mode; cases mode <;> rfl
  simp only [hcode, hgraceful, himmediate, hx, Host.Outcome.next.injEq]
  refine ⟨fun ho hl => ?_, fun mode hr => ?_, fun ho => ?_, fun ho hl => ?_, fun hn mode => ⟨fun hf hl => ?_,
    fun openTag ho hp => ?_⟩⟩
  · simp [State.takeClose, ho, State.addClose, State.setState, State.endDrainIfEmpty, hl]
  · rcases hr with h | h | ⟨h, rfl⟩ <;>
      simp [State.takeClose, h, State.postDone, State.postReserved_eq, doneFor]
  · have hn := State.closeNow_addClose (i := i) (s := s.recordTaken q) hfu tag .immediate
    rcases ho with h | h <;> simp only [State.takeClose, State.recordTaken_stream, h, hn] <;> rfl
  · have ht : (s.recordTaken q).takeClose i tag .graceful = ((s.recordTaken q).setStream i
        { (s.recordTaken q).stream i with
          state := .draining, closePending := (s.stream i).closePending ++ [(tag, .graceful)] }).endDrain i := by
      simp [State.takeClose, ho, State.addClose, State.setState, State.endDrainIfEmpty, hl]
    rw [ht, State.endDrain, State.closeIdle_eq (s := s.recordTaken q) hl]
    rfl
  · have ht : (s.recordTaken q).takeClose i tag mode = (((s.recordTaken q).setStream i
        { (s.recordTaken q).stream i with
          state := (s.stream i).state, closePending := (s.stream i).closePending ++ [(tag, mode)] }).releaseBuffers
            i).enterReleasing i .closed := by
      simp only [State.takeClose, State.recordTaken_stream, hf]
      rw [State.addClose, State.recordTaken_stream]
      simp only [hf]
    rw [ht, ← State.flush_of_no_context (reason := .streamClosed) (i := i) (s := (s.recordTaken q).setStream i _) hn,
       State.closeIdle_eq (s := s.recordTaken q) hl, State.flushed_of_no_context (i := i) (s := s.recordTaken q) hn]
  · have ht : (s.recordTaken q).takeClose i tag mode = ((s.recordTaken q).addClose i tag mode).cancelOpening i := by
      simp only [State.takeClose, State.recordTaken_stream, ho]
    rw [ht, State.cancelOpening_eq (s := (s.recordTaken q).addClose i tag mode) (tag := openTag) hfu hn
      (by simpa [State.addClose] using hp)]
    simp only [State.addClose, State.setStream_stream_self, State.setStream_twice]
    exact State.ended_setStream i { s.stream i with openPending := none, syncTimer := .stopped } (s.stream i).state
      ((s.stream i).closePending ++ [(tag, mode)]) _ _ _ _ _ ((s.recordTaken q).freeSlotsOfStream i)

end Sys2Proof.Machine

namespace Sys2Proof.Machine

set_option Elab.async false -- one thread for each lemma would need more memory than the check allows

/-! ### Replacing a transmit list -/

section
variable (s : State) (i : StreamId) (l l' : List SendEntry)
@[simp] theorem State.setList_stream (j : StreamId) : (s.setList i l).stream j = s.stream j := rfl
@[simp] theorem State.setList_rxs (j : StreamId) : (s.setList i l).rxs j = s.rxs j := rfl
@[simp] theorem State.setList_txs_self : (s.setList i l).txs i = { s.txs i with list := l } := by simp [setList]
@[simp] theorem State.setList_twice : (s.setList i l).setList i l' = s.setList i l' := by simp [setList]
@[simp] theorem State.setList_same : s.setList i (s.txs i).list = s := setTxs_same s i
@[simp] theorem State.withRetired_nil : s.withRetired i [] = s := rfl
end

/-- The end of a stream empties its list, whatever the list held. -/
@[simp] theorem State.ended_setList (i : StreamId) (l : List SendEntry) (first : List Completion) (failed : List SendEntry)
    (flush : List ReleaseEntry) (pend : List (Tag × CloseMode)) (cause : ReleaseCause) (s : State) :
    State.ended i first failed flush pend cause (s.setList i l) = s.ended i first failed flush pend cause := by
  simp only [ended, setList, listReturned, emptied, setTxs_rxs, setTxs_stream, setTxs_txs_self, setTxs_twice]
  rfl

/-! ### Settling an entry -/

/-- `State.retire_eq` for a list that may have no finished head (R46, R47). -/
theorem State.retire_setList {i : StreamId} {s : State} {l : List SendEntry} (h : FencesUnsettled s) (hl : l ≠ []) :
    (s.setList i l).retire i =
      if (s.stream i).state = .draining ∧ l.dropWhile SendEntry.finished = [] then
        s.ended i [] l (s.flushed i .streamClosed) (s.stream i).closePending .closed
      else
        State.withRetired i (l.takeWhile SendEntry.finished) (s.setList i (l.dropWhile SendEntry.finished)) := by
  have htd := List.takeWhile_append_dropWhile (p := SendEntry.finished) (l := l)
  have htx : ((s.setList i l).txs i).list = l := by simp
  by_cases hf : l.takeWhile SendEntry.finished = []
  · rw [hf, List.nil_append] at htd
    rw [hf, htd, if_neg fun hc => hl hc.2, retire, TxStream.finishedHead, htx, if_pos hf, withRetired_nil]
  · rw [retire_eq (s := s.setList i l) h (by rwa [htx]), htx]
    refine if_ctx_congr Iff.rfl (fun hd => ?_) fun _ => ?_
    · rw [hd.2, List.append_nil] at htd
      rw [htd, ended_setList]
      rfl
    · rw [setList_twice]

/-- What an ACK or a REJECT(TOO_LONG) leaves of the stream whose unfinished entry it settles (R42, R44, R46, R47). -/
theorem State.applyOutcome_unfinished {s : State} {i : StreamId} {m : Msn} {e : SendEntry}
    (hs : (s.stream i).state = .opened ∨ (s.stream i).state = .draining) (h : FencesUnsettled s)
    (hw : (s.txs i).position m < 8) (he : (s.txs i).locate m = some e) (hf : e.finished = false) (x : EntryState) :
    s.applyOutcome i (s.stream i).gen m x =
      let l := (s.txs i).list.set ((s.txs i).position m) { e.cancelTimers with state := x }
      if (s.stream i).state = .draining ∧ l.dropWhile SendEntry.finished = [] then
        (s.freeSlotOf i e.msn).ended i [] l (s.flushed i .streamClosed) (s.stream i).closePending .closed
      else
        State.withRetired i (l.takeWhile SendEntry.finished)
          ((s.freeSlotOf i e.msn).setList i (l.dropWhile SendEntry.finished)) := by
  have hn : s.noticeEntry i (s.stream i).gen m = some e := by
    simp [noticeEntry, noticeApplies, hs, TxStream.locateInWindow, Config.windowSize, hw, he]
  have hl : (s.txs i).list ≠ [] := by
    intro h0
    simp [TxStream.locate, h0] at he
  simp only [applyOutcome, hn, hf, settleEntry, Bool.false_eq_true, if_false]
  exact retire_setList (s := s.freeSlotOf i e.msn) h (by rwa [Ne, List.set_eq_nil_iff])

/-- A notice for an entry that is finished already is ignored (R42, R44). -/
theorem State.applyOutcome_finished {s : State} {i : StreamId} {g : Gen} {m : Msn} {e : SendEntry}
    (he : (s.txs i).locate m = some e) (hf : e.finished = true) (x : EntryState) :
    s.applyOutcome i g m x = s := by
  by_cases ha : s.noticeApplies i g = true <;> by_cases hw : (s.txs i).position m < Config.windowSize <;>
    simp [applyOutcome, noticeEntry, TxStream.locateInWindow, ha, hw, he, hf]

theorem State.freeSlotOf_eq (s : State) (i : StreamId) (m : Msn) : s.freeSlotOf i m = { s with
    te.slots := s.te.slots.map fun o => o.bind fun w => if w.stream = i ∧ w.msn = m then none else some w } := by
  simp only [freeSlotOf, SlotWork.holds, decide_eq_true_eq]

/-- Settles O26: both notices give an entry its outcome, and an outcome either settles an unfinished entry, with the
retirement and end of a drain that follow (`applyOutcome_unfinished`), or is ignored (`applyOutcome_finished`). -/
theorem answeredEntrySettles : Obligations.AnsweredEntrySettles := by
  intro s l i m e hup hs hfu t hw he
  have hack : exec (.ackReceived l i (s.stream i).gen m) s =
      .next ((s.heard l).applyOutcome i (s.stream i).gen m .acked) := congrArg _ (State.hearUnit_up hup _)
  have hrej : exec (.rejectTooLongReceived l i (s.stream i).gen m) s =
      .next ((s.heard l).applyOutcome i (s.stream i).gen m (.failed .remoteTooLong)) :=
    congrArg _ (State.hearUnit_up hup _)
  refine ⟨fun hf => ?_, fun hf => ?_⟩
  · have ho := State.applyOutcome_unfinished (s := s.heard l) hs hfu hw he hf
    rw [State.freeSlotOf_eq] at ho
    exact ⟨hack.trans (congrArg _ (ho _)), hrej.trans (congrArg _ (ho _))⟩
  · have ho := State.applyOutcome_finished (s := s.heard l) (g := (s.stream i).gen) he hf
    exact ⟨hack.trans (congrArg _ (ho _)), hrej.trans (congrArg _ (ho _))⟩

/-! ### Where the entry for an MSN stands -/

theorem TxStream.msn_getElem {t : TxStream} (h : t.consecutive = true) {k : Nat} (hk : k < t.list.length) :
    t.list[k].msn = t.txNext - BitVec.ofNat 8 (t.list.length - k) := by
  have := congrArg (fun l => l[k]?) (of_decide_eq_true h)
  simpa [hk] using this

theorem msn_distance (x : Msn) {n k : Nat} (hk : k < n) (hn : n ≤ 32) :
    (x - BitVec.ofNat 8 (n - k) - (x - BitVec.ofNat 8 n)).toNat = k := by
  have hx := x.isLt
  simp only [BitVec.toNat_sub, BitVec.toNat_ofNat]
  omega

theorem msn_at_distance (x m : Msn) {n : Nat} (hk : (m - (x - BitVec.ofNat 8 n)).toNat < n) :
    x - BitVec.ofNat 8 (n - (m - (x - BitVec.ofNat 8 n)).toNat) = m := by
  have hx := x.isLt
  have hm := m.isLt
  apply BitVec.eq_of_toNat_eq
  simp only [BitVec.toNat_sub, BitVec.toNat_ofNat] at hk ⊢
  omega

/-- In a list without gaps the entry at a position has the MSN that the position locates (R28). -/
theorem TxStream.position_msn {t : TxStream} (h : t.consecutive = true) (hn : t.list.length ≤ 32) {k : Nat}
    (hk : k < t.list.length) : t.position t.list[k].msn = k := by
  have h0 := t.msn_getElem h (k := 0) (by omega)
  have hk' := t.msn_getElem h hk
  unfold position
  split
  · next hl => simp [hl] at hk
  · next e es hl =>
    have he : e = t.list[0] := by simp [hl]
    rw [he, h0, hk', Nat.sub_zero, msn_distance _ hk hn]

/-- In a list without gaps the entry that an MSN locates has that MSN (R28). -/
theorem TxStream.msn_of_locate {t : TxStream} (h : t.consecutive = true) {m : Msn}
    {e : SendEntry} (he : t.locate m = some e) : e.msn = m := by
  obtain ⟨hk, he⟩ := List.getElem?_eq_some_iff.mp he
  have h0 := t.msn_getElem h (k := 0) (by omega)
  have hk' := t.msn_getElem h hk
  rw [he] at hk'
  rw [hk']
  have hp : t.position m = (m - t.list[0].msn).toNat := by
    unfold position
    split
    · next hl => simp [hl] at hk
    · next d ds hl => simp [hl]
  rw [hp, h0, Nat.sub_zero] at hk ⊢
  exact msn_at_distance _ _ hk

/-- A REJECT(NOT_OPEN) names the unfinished entry of the send window that has its MSN (R45). -/
theorem State.rejectedEntry_iff {s : State} {i : StreamId} (h : (s.txs i).consecutive = true)
    (hn : (s.txs i).list.length ≤ 32) (m : Msn) {d : SendEntry} (hd : d ∈ (s.txs i).list) (hf : d.finished = false) :
    s.rejectedEntry i m = some d.msn ↔ d.msn = m ∧ (s.txs i).position m < 8 := by
  obtain ⟨k, hk, rfl⟩ := List.getElem_of_mem hd
  constructor
  · intro hr
    unfold rejectedEntry TxStream.locateInWindow at hr
    split at hr <;> [cases hr; skip]
    next e he =>
    split at he <;> [skip; cases he]
    next hw =>
    split at hr <;> [cases hr; skip]
    exact ⟨(Option.some.inj hr).symm.trans (TxStream.msn_of_locate h he), hw⟩
  · rintro ⟨rfl, hw⟩
    have hl : (s.txs i).locate (s.txs i).list[k].msn = some (s.txs i).list[k] := by
      rw [TxStream.locate, TxStream.position_msn h hn hk, List.getElem?_eq_getElem hk]
    simp [rejectedEntry, TxStream.locateInWindow, Config.windowSize, hw, hl, hf]

/-- Settles O28: MSNs are consecutive, so the entry that the REJECT names is the only one that fails REMOTE_CLOSED
(`rejectedEntry_iff`); the fault is the fault report of that cause. -/
theorem rejectNotOpenFaults : Obligations.RejectNotOpenFaults := by
  intro s l i m hup hfu hcons hlen named failed
  have hx : exec (.rejectNotOpenReceived l i (s.stream i).gen m) s =
      .next ((s.heard l).applyNotOpen i (s.stream i).gen m) := congrArg _ (State.hearUnit_up hup _)
  have hfail : failedList (.remoteClosed ((s.heard l).rejectedEntry i m)) (s.txs i).list = failed := by
    refine List.map_congr_left fun d hd => ?_
    by_cases hf : d.finished = true
    · simp only [hf, if_true]
    · have := State.rejectedEntry_iff (s := s.heard l) hcons hlen m hd (by simpa using hf)
      simp only [hf, ListFailure.status, this, named]
      rfl
  have happ (hs : (s.stream i).state = .opened ∨ (s.stream i).state = .draining) :
      (s.heard l).applyNotOpen i (s.stream i).gen m =
        (s.heard l).reportFault i (.remoteClosed ((s.heard l).rejectedEntry i m)) := by
    simp [State.applyNotOpen, State.noticeApplies, hs]
  rw [← hfail]
  refine ⟨fun ho => ?_, fun hd => ?_⟩
  · rw [hx, happ (.inl ho), State.reportFault_opened (s := s.heard l) hfu ho]
    rfl
  · rw [hx, happ (.inr hd), State.reportFault_draining (s := s.heard l) hfu hd]
    rfl

end Sys2Proof.Machine

namespace Sys2Proof.Machine

set_option Elab.async false -- one thread for each lemma would need more memory than the check allows

/-! ### The timers of an entry -/

/-- Failing a list shows nothing of the timers an entry had (R48, R49). -/
theorem retire_failedList (i : StreamId) (cause : ListFailure) (es : List SendEntry) (ft : List FenceRecord) :
    retirePosts i (failedList cause es) ft = retirePosts i (es.map (SendEntry.fail cause)) ft ∧
      fencesAfter i (failedList cause es) ft = fencesAfter i (es.map (SendEntry.fail cause)) ft :=
  retire_congr i _ _ es (fun e => by
    cases hf : e.finished <;> simp [SendEntry.fail, SendEntry.cancelTimers, ListFailure.status, hf]) ft

/-- Two lists that fail alike, entry by entry, retire alike. -/
theorem retire_failedList_congr (i : StreamId) {cause : ListFailure} {a b : List SendEntry}
    (h : a.map (SendEntry.fail cause) = b.map (SendEntry.fail cause)) (ft : List FenceRecord) :
    retirePosts i (failedList cause a) ft = retirePosts i (failedList cause b) ft ∧
      fencesAfter i (failedList cause a) ft = fencesAfter i (failedList cause b) ft := by
  obtain ⟨ha, ha'⟩ := retire_failedList i cause a ft
  obtain ⟨hb, hb'⟩ := retire_failedList i cause b ft
  rw [ha, ha', hb, hb', h]
  exact ⟨rfl, rfl⟩

section
variable (i : StreamId) (entries : List ReleaseEntry) (s : State)
@[simp] theorem State.emptied_stream (j : StreamId) : (s.emptied i entries).stream j = s.stream j := rfl
theorem State.emptied_txs_self : (s.emptied i entries).txs i = { s.txs i with list := [] } :=
  setTxs_txs_self s i _
theorem State.emptied_contexts :
    (s.emptied i entries).re.contexts = s.re.contexts.filter fun c => decide (c.stream ≠ i) := rfl
end

@[simp] theorem State.emptied_setList (i : StreamId) (l : List SendEntry) (entries : List ReleaseEntry) (s : State) :
    (s.setList i l).emptied i entries = s.emptied i entries := by
  simp only [emptied, setList, setTxs_txs_self, setTxs_twice, setTxs_rxs]
  rfl

/-- A fault empties the list, whatever the list held. -/
@[simp] theorem State.faultedBy_setList (i : StreamId) (l failed : List SendEntry) (cause : FaultCause)
    (reason : ReturnReason) (s : State) :
    (s.setList i l).faultedBy i failed cause reason = s.faultedBy i failed cause reason := by
  have hs : (s.setList i l).freeSlotsOfStream i = (s.freeSlotsOfStream i).setList i l := rfl
  have hf : (s.setList i l).flushed i reason = s.flushed i reason := rfl
  rw [faultedBy, hs, hf, emptied_setList]
  rfl

/-- What a fault leaves of a stream shows its failed entries only by what they post and the fences they reach. -/
theorem State.faultedBy_congr {i : StreamId} {s : State} {a b : List SendEntry}
    (h : retirePosts i a s.ft = retirePosts i b s.ft ∧ fencesAfter i a s.ft = fencesAfter i b s.ft)
    (cause : FaultCause) (reason : ReturnReason) :
    s.faultedBy i a cause reason = s.faultedBy i b cause reason := by
  simp only [faultedBy, withRetired]
  exact congrArg₂ (fun ft cs => State.withPosted cs { State.setStream _ i _ with ft := ft }) h.2 h.1

theorem State.drainFaulted_congr {i : StreamId} {s : State} {a b : List SendEntry}
    (h : retirePosts i a s.ft = retirePosts i b s.ft ∧ fencesAfter i a s.ft = fencesAfter i b s.ft) :
    s.drainFaulted i a = s.drainFaulted i b := by
  have hft : (s.freeSlotsOfStream i).ft = s.ft := rfl
  simp only [drainFaulted, ended, hft, h.1, h.2]

/-- Settles O30: below the limit the entry is set QUEUED; at the limit the fault report fails the list, and a failed
list shows nothing of the timer that has stopped (`retire_failedList_congr`). -/
theorem entryTimersExpire : Obligations.EntryTimersExpire := by
  intro s i m e left he t hloc
  have hh : s.isHalted = false := by simp [State.isHalted, he]
  refine ⟨fun hs ht => ?_, fun hs ht => ?_⟩
  · have hx : s.holdoffExpiry i m = s.setEntry i m
        { e with state := .queued, attempt := e.attempt + 1, holdoffTimer := .stopped } := by
      simp [State.holdoffExpiry, hh, t, hloc, hs, ht, Timer.isRunning]
    exact congrArg _ hx
  · have hx : exec (.ackTimerExpiry i m) s = .next (s.ackTimeout i m e) := by
      simp [exec, execAckTimerExpiry, State.ackExpiry, hh, t, hloc, hs, ht, Timer.isRunning]
    rw [hx]
    refine ⟨fun hne => ?_, fun heq hfu => ?_⟩
    · rw [State.ackTimeout, if_neg hne, State.setEntry, State.setList]
      simp [t]
    · intro failed
      have hto : s.ackTimeout i m e = (s.setList i (t.list.set (t.position m)
          { e with retries := e.retries + 1, ackTimer := .stopped })).reportFault i (.noResponse e.msn) := if_pos heq
      have hcongr := retire_failedList_congr i (cause := .noResponse e.msn)
        (a := t.list.set (t.position m) { e with retries := e.retries + 1, ackTimer := .stopped })
        (b := t.list.set (t.position m) { e with retries := e.retries + 1 })
        (by simp [List.map_set, SendEntry.fail, SendEntry.finished, hs, SendEntry.cancelTimers, ListFailure.status]) s.ft
      rw [hto]
      refine ⟨fun ho => ?_, fun hd => ?_⟩
      · rw [State.reportFault_opened (by exact hfu) (by simpa using ho)]
        simp only [State.setList_txs_self, FaultReport.failure, State.faultedBy_setList, State.faultedBy_congr hcongr]
        rfl
      · rw [State.reportFault_draining (by exact hfu) (by simpa using hd)]
        have hs : ∀ l, (s.setList i l).freeSlotsOfStream i = (s.freeSlotsOfStream i).setList i l := fun _ => rfl
        rw [hs, State.ended_setList, State.setList_txs_self]
        exact congrArg _ (State.drainFaulted_congr hcongr)

/-! ### Resynchronisation -/

/-- Steps 1 to 5 of a resync, and the recorded event: everything but the end of a drain (R10, R23). -/
theorem State.resync_eq {i : StreamId} {s : State} (h : FencesUnsettled s) (g : Gen) :
    let u := ((s.freeSlotsOfStream i).emptied i (s.flushed i .streamResync)).withRetired i
      (failedList .peerResync (s.txs i).list)
    s.resync i g = State.endDrainIfEmpty i (State.produceNotice (.syncAck i g)
      (((u.setTxs i { u.txs i with txNext := 0 }).setRxs i { u.rxs i with rxExpected := 0 }).setStream i
        ({ s.stream i with gen := g, lastGen := g, deferralNote := none, history := [] }.withEvent .resynced g))) := by
  intro u
  have hu : (s.failList i .peerResync).flush i .streamResync = u := by
    rw [failList_eq' _ _ _ h, flush_withRetired, emptied_eq]
    rfl
  have hr : u.stream i = s.stream i := by simp [u]
  simp only [resync, hu, resetSequences, recordEvent, setStream_produceNotice, setStream_twice,
    setStream_stream_self, setTxs_rxs, setTxs_stream, setRxs_stream, produceNotice_stream, hr]
  rfl

theorem State.syncArrives_opened {s : State} {i : StreamId} (g : Gen)
    (h : (s.stream i).state = .opened ∨ (s.stream i).state = .draining) : s.syncArrives i g = s.syncOpened i g := by
  rcases h with h | h <;> simp only [syncArrives, h]

/-- Settles O37: a resync is `resync_eq` up to the end of a drain, which finds list and contexts empty already. -/
theorem syncResyncs : Obligations.SyncResyncs := by
  intro s l i g hup hg hfu r failed u resynced
  have hx (hs : r.state = .opened ∨ r.state = .draining) : exec (.syncReceived l i g) s = .next (resynced.endDrainIfEmpty i) := by
    rw [exec_syncReceived hup]
    rw [State.syncArrives_opened (s := s.heard l) g hs, State.syncOpened, if_neg (by exact hg),
      State.resync_eq (s := s.heard l) hfu]
    rfl
  have hr : resynced.stream i = { r with gen := g, lastGen := g, deferralNote := none, history := [] }.withEvent .resynced g := by
    simp [resynced]
  have hst : (resynced.stream i).state = r.state := by rw [hr]; rfl
  have hp : (resynced.stream i).closePending = r.closePending := by rw [hr]; rfl
  refine ⟨fun ho => ?_, fun hd => ?_⟩
  · rw [hx (.inl ho), State.endDrainIfEmpty, if_neg (by rw [hst, ho]; simp)]
  · have hl : (resynced.txs i).list = [] := by simp [resynced, u, State.emptied_txs_self]
    have hc : ∀ c ∈ resynced.re.contexts, c.stream ≠ i := by simp [resynced, u, State.withRetired, State.emptied_contexts]
    rw [hx (.inr hd), State.endDrainIfEmpty, if_pos ⟨hst.trans hd, hl⟩, State.endDrain,
      State.flushReleaseEnter_eq _ _ _ _ hl, State.flushed_of_no_context hc, hp]

end Sys2Proof.Machine

namespace Sys2Proof.Machine

set_option Elab.async false -- one thread for each lemma would need more memory than the check allows

/-! ### The part while HALTED -/

/-- What HALTED freezes, as O59 lists it (R25, R54, R67, R95, R106, R131, R152, R171, R185, R186). -/
structure Frozen (s t : State) : Prop where
  st : t.st = s.st
  te : t.te = s.te
  re : t.re = s.re
  ft : t.ft = s.ft
  lm : t.lm = s.lm
  rp : t.rp = { s.rp with rqTail := t.rp.rqTail }
  cp : t.cp = { s.cp with unconsumed := t.cp.unconsumed }
  engine : t.hau.engine = s.hau.engine
  haltCause : t.hau.haltCause = s.hau.haltCause
  faultAddress : t.hau.faultAddress = s.hau.faultAddress
  rqRing : t.hau.rqRing = s.hau.rqRing
  cqRing : t.hau.cqRing = s.hau.cqRing
  writeQueue : t.hau.writeQueue = s.hau.writeQueue

theorem Frozen.refl (s : State) : Frozen s s := by constructor <;> rfl

theorem Frozen.ite {p : Prop} [Decidable p] {s a b : State} (ha : p → Frozen s a) (hb : ¬p → Frozen s b) :
    Frozen s (if p then a else b) := by
  split
  · next h => exact ha h
  · next h => exact hb h

/-- The judgement of the interrupt condition moves nothing but the owed interrupt (R187). -/
theorem State.judgeInterrupt_eq (b : Bool) (s : State) :
    ∃ o, State.judgeInterrupt b s = { s with hau.interruptOwed := o } := by
  unfold judgeInterrupt oweInterrupt
  split
  · split
    · exact ⟨_, rfl⟩
    · exact ⟨_, rfl⟩
  · exact ⟨_, rfl⟩

theorem State.writeControl_frozen {s : State} (h : s.hau.engine = .halted) (e ie : Bool) :
    Frozen s (s.writeControl e ie) := by
  have hw : State.writeEnable e { s with hau.intEnable := ie } = { s with hau.intEnable := ie } := by
    simp [writeEnable, h]
  obtain ⟨o, ho⟩ := judgeInterrupt_eq s.interruptCondition { s with hau.intEnable := ie }
  rw [writeControl, hw, ho]
  constructor <;> rfl

theorem State.writeRqRing_halted {s : State} (h : s.hau.engine = .halted) (v : BitVec 64) : s.writeRqRing v = s := by
  simp [writeRqRing, h]

theorem State.writeCqRing_halted {s : State} (h : s.hau.engine = .halted) (v : BitVec 64) : s.writeCqRing v = s := by
  simp [writeCqRing, h]

theorem State.writeCqHead_frozen (s : State) (v : BitVec 32) : Frozen s (s.writeCqHead v) := by
  unfold writeCqHead
  split
  · obtain ⟨o, ho⟩ := judgeInterrupt_eq false { s with cp.unconsumed := s.cp.unconsumed - s.cqAdvance v }
    rw [ho]
    constructor <;> rfl
  · exact .refl s

theorem State.writeRqTail_frozen (s : State) (v : BitVec 32) : Frozen s (s.writeRqTail v) := by constructor <;> rfl

theorem State.writeRegister_frozen {s : State} (h : s.hau.engine = .halted) {offset size : Nat} {v : BitVec 64}
    (hv : v.getLsbD 1 = true → ¬(offset = 0x04 ∧ size = 4)) : Frozen s (s.writeRegister offset size v) := by
  unfold writeRegister
  simp only [writeRqRing_halted h, writeCqRing_halted h]
  have hs : Frozen s s := .refl s
  refine .ite (fun hsize => .ite (fun ho => ?_) fun _ => ?_) fun _ => ?_
  · rw [writeControlWord, if_neg fun hb => hv hb ⟨ho, hsize⟩]
    exact writeControl_frozen h _ _
  · exact .ite (fun _ => hs) fun _ => .ite (fun _ => hs) fun _ => .ite (fun _ => hs) fun _ => .ite (fun _ => hs) fun _ =>
      .ite (fun _ => writeRqTail_frozen s _) fun _ => .ite (fun _ => writeCqHead_frozen s _) fun _ => hs
  · exact .ite (fun _ => .ite (fun _ => hs) fun _ => .ite (fun _ => hs) fun _ => hs) fun _ => hs

/-- A record read that completes leaves the tracker, and its record is discarded (R141). -/
theorem State.completeRecordRead_frozen {s : State} (h : s.hau.engine = .halted) (r : RequestRecord) :
    Frozen s (s.completeRecordRead r) := by
  unfold completeRecordRead
  split
  · exact .refl s
  · next q _ =>
    have hh : (s.dropRead q.id).isHalted = true := by simp [isHalted, dropRead, h]
    rw [recordReturned, if_pos hh]
    constructor <;> rfl

theorem State.receiveRecordData_frozen {s : State} (h : s.hau.engine = .halted) (data : List Byte) :
    Frozen s (s.receiveRecordData data) := by
  unfold receiveRecordData
  split
  · exact .refl s
  · split
    · exact completeRecordRead_frozen h _
    · constructor <;> rfl

theorem State.receiveSliceData_frozen {s : State} (h : s.hau.engine = .halted) (id : Nat) (data : List Byte) :
    Frozen s (s.receiveSliceData id data) := by
  have hh : (s.dropRead id).isHalted = true := by simp [isHalted, dropRead, h]
  unfold receiveSliceData
  split
  · exact .refl s
  · split
    · exact .refl s
    · split
      · rw [fillWaiting, if_pos hh]
        constructor <;> rfl
      · constructor <;> rfl

/-- With its queues empty a lane can send an ALIGN or IDLE and nothing else (R110, R131). -/
theorem State.transmit_frozen {s : State} {l : LaneId} (hq : (s.lane l).txQueue = []) : Frozen s (s.transmit l) := by
  unfold transmit
  simp only [hq]
  split <;> constructor <;> rfl

theorem State.interruptMessage_frozen (s : State) (msi : Bool) : Frozen s (s.interruptMessage msi) := by
  unfold interruptMessage
  split
  · cases msi <;> constructor <;> rfl
  · exact .refl s

theorem State.releaseIdentifier_frozen (s : State) (id : Nat) : Frozen s (s.releaseIdentifier id) := by
  constructor <;> rfl

/-- In HALTED every command but a reset leaves the part frozen (R185, R186). -/
theorem exec_frozen {c : Instr} {s : State} (h : s.hau.engine = .halted) (hq : HaltedQuiet s) (hp : c ≠ .portReset)
    (hr : c ≠ .softReset) (hw : ∀ v, v.getLsbD 1 = true → c ≠ .registerWrite 0x04 4 v) :
    ∃ t, exec c s = .next t ∧ Frozen s t := by
  obtain ⟨hwq, hbl, hnq, hlq⟩ := hq h
  have hh : s.isHalted = true := by simp [State.isHalted, h]
  have hg : s.canGrant = false := by simp [State.canGrant, hh]
  have kept {u : State} (e : u = s) : Frozen s u := e ▸ .refl s
  have hup (l : LaneId) (act : State → State) : Frozen s (s.hearUnit l act) := kept (State.hearUnit_halted h l act)
  have hbad (l : LaneId) : Frozen s (s.hearBad l) := kept (by simp [State.hearBad, hh])
  have hrec := fun r => State.completeRecordRead_frozen h r
  cases c with
  | portReset => exact absurd rfl hp
  | softReset => exact absurd rfl hr
  | enableSet ie => exact ⟨_, rfl, State.writeControl_frozen h true ie⟩
  | enableClear ie => exact ⟨_, rfl, State.writeControl_frozen h false ie⟩
  | intEnableWrite e ie => exact ⟨_, rfl, State.writeControl_frozen h e ie⟩
  | rqRingWrite v => exact ⟨_, rfl, kept (State.writeRqRing_halted h v)⟩
  | cqRingWrite v => exact ⟨_, rfl, kept (State.writeCqRing_halted h v)⟩
  | rqTailWrite v => exact ⟨_, rfl, State.writeRqTail_frozen s v⟩
  | cqHeadWrite v => exact ⟨_, rfl, State.writeCqHead_frozen s v⟩
  | registerWrite offset size v =>
    exact ⟨_, rfl, State.writeRegister_frozen h fun hb ⟨ho, hs⟩ => hw v hb (by rw [ho, hs])⟩
  | configure => exact ⟨_, rfl, hrec _⟩
  | openStream => exact ⟨_, rfl, hrec _⟩
  | closeStream => exact ⟨_, rfl, hrec _⟩
  | send => exact ⟨_, rfl, hrec _⟩
  | post => exact ⟨_, rfl, hrec _⟩
  | fence => exact ⟨_, rfl, hrec _⟩
  | queryStream => exact ⟨_, rfl, hrec _⟩
  | queryLink => exact ⟨_, rfl, hrec _⟩
  | reservationGrant => exact ⟨_, rfl, kept (by simp [State.reservationEnabled, hg])⟩
  | recordReadIssue => exact ⟨_, rfl, kept (by simp [State.recordReadEnabled, hh])⟩
  | recordReadComplete data => exact ⟨_, rfl, State.receiveRecordData_frozen h data⟩
  | sliceReadIssue => exact ⟨_, rfl, kept (by simp [State.sliceReadIssue, State.sliceReadEnabled, hh])⟩
  | sliceReadReturn id data => exact ⟨_, rfl, State.receiveSliceData_frozen h id data⟩
  | readError id => exact ⟨_, rfl, kept (by simp [State.readErrors, hh])⟩
  | readTimeout id => exact ⟨_, rfl, kept (by simp [State.readTimesOut, hh])⟩
  | forgottenReadReturn id => exact ⟨_, rfl, State.releaseIdentifier_frozen s id⟩
  | forgottenReadExpiry id => exact ⟨_, rfl, State.releaseIdentifier_frozen s id⟩
  | slicerSlotFill => exact ⟨_, rfl, kept (by simp [State.slotFill, State.fillEnabled, hh])⟩
  | unitPlacement => exact ⟨_, rfl, kept (by simp [State.placement, hh])⟩
  | laneUnitTransmit l => exact ⟨_, rfl, State.transmit_frozen (hlq l)⟩
  | alignReceived l role epoch ready =>
    exact ⟨_, rfl, .ite (fun _ => hbad l) fun _ => kept (by simp [State.hearAlign, hh])⟩
  | badUnitReceived l => exact ⟨_, rfl, hbad l⟩
  | idleReceived l => exact ⟨_, rfl, hup l _⟩
  | silenceTimerExpiry l => exact ⟨_, rfl, kept (by simp [State.silence, hh])⟩
  | sliceReceived l => exact ⟨_, rfl, hup l _⟩
  | syncReceived l => exact ⟨_, rfl, hup l _⟩
  | syncAckReceived l => exact ⟨_, rfl, hup l _⟩
  | syncTimerExpiry i => exact ⟨_, rfl, kept (by simp [State.syncExpiry, hh])⟩
  | ackReceived l => exact ⟨_, rfl, hup l _⟩
  | deferReceived l => exact ⟨_, rfl, hup l _⟩
  | rejectTooLongReceived l => exact ⟨_, rfl, hup l _⟩
  | rejectNotOpenReceived l => exact ⟨_, rfl, hup l _⟩
  | ackTimerExpiry i m => exact ⟨_, rfl, kept (by simp [State.ackExpiry, hh])⟩
  | holdoffTimerExpiry i m => exact ⟨_, rfl, kept (by simp [State.holdoffExpiry, hh])⟩
  | dataWriteDeparts => exact ⟨_, rfl, kept (by simp [State.dataWriteDeparts, hwq])⟩
  | recordWriteDeparts => exact ⟨_, rfl, kept (by simp [State.recordWriteDeparts, hwq])⟩
  | backlogMove => exact ⟨_, rfl, kept (by simp [State.backlogMove, hbl])⟩
  | interruptMessage msi => exact ⟨_, rfl, State.interruptMessage_frozen s msi⟩
  | linkEventGrant => exact ⟨_, rfl, kept (by simp [State.linkGrantEnabled, hg])⟩
  | streamEventGrant => exact ⟨_, rfl, kept (by simp [State.streamEventGrant, State.belowLinkEnabled, hg])⟩
  | releaseListGrant => exact ⟨_, rfl, kept (by simp [State.releaseListGrant, State.belowLinkEnabled, hg])⟩

/-- Settles O59: no command but a reset changes a frozen block (`exec_frozen`). -/
theorem haltedFreezes : Obligations.HaltedFreezes := by
  intro c s t h hq hp hr hw hx
  obtain ⟨u, hu, hf⟩ := exec_frozen h hq hp hr hw
  obtain rfl := Host.Outcome.next.inj (hu.symm.trans hx)
  exact ⟨hf.st, hf.te, hf.re, hf.ft, hf.lm, hf.rp, hf.cp, hf.engine.trans h, hf.haltCause, hf.faultAddress, hf.rqRing,
    hf.cqRing, hf.writeQueue.trans (hq h).1⟩

end Sys2Proof.Machine

namespace Sys2Proof.Machine

set_option Elab.async false -- one thread for each lemma would need more memory than the check allows

/-! ### What one event can do to one stream

A stream as the Stream Table, the Transmit Engine and the Receive Engine hold it is a `StreamView`. `StreamEffect` says
everything that one event other than a reset can do to it: section 1.10 of the manual together with what an event does
to the lists of the stream. The invariants of the stream records follow from it by cases. -/

/-- A stream with its lists and its contexts. -/
structure StreamView where
  record : StreamRecord
  list : List SendEntry
  rx : RxStream
  contexts : List ReContext

/-- The stream `i` of a state. -/
def State.view (s : State) (i : StreamId) : StreamView := ⟨s.stream i, (s.txs i).list, s.rxs i, s.contextsOf i⟩

/-- The stream is in a state that may hold buffers and release records as it likes, or still has contexts (R71). -/
def StreamView.Live (v : StreamView) : Prop :=
  v.record.state = .opening ∨ v.record.state = .opened ∨ v.record.state = .draining ∨ v.contexts ≠ []

/-- `gen` stays `last_gen`, and the outcome history within 8 pairs (R3, R86). -/
structure RecordKept (r r' : StreamRecord) : Prop where
  gens : r.gen = r.lastGen → r'.gen = r'.lastGen
  history : r.history.length ≤ 8 → r'.history.length ≤ 8

/-- Lists that were empty stay empty, and a RELEASING stream keeps something to release. -/
structure ListsKept (v w : StreamView) : Prop where
  list : v.list = [] → w.list = []
  buffers : v.rx.bufferList = [] → w.rx.bufferList = []
  releases : v.rx.releaseList = [] → w.rx.releaseList = []
  waiting : v.record.state = .releasing → v.rx.releaseList ≠ [] → w.rx.releaseList ≠ []

/-- The stream stays where it is in its life (R2). -/
structure StreamStays (v w : StreamView) : Prop where
  kept : RecordKept v.record w.record
  state : w.record.state = v.record.state
  openPending : w.record.openPending.isSome = v.record.openPending.isSome
  closePending : w.record.closePending = v.record.closePending
  timer : v.record.state ≠ .opening → v.record.syncTimer = .stopped → w.record.syncTimer = .stopped
  lists : v.Live ∨ ListsKept v w
  live : w.Live → v.Live

/-- A record that changes its state but keeps the OPEN it has pending and starts no sync timer. -/
structure RecordCalm (r r' : StreamRecord) : Prop extends RecordKept r r' where
  openPending : r'.openPending.isSome = r.openPending.isSome
  timer : r.syncTimer = .stopped → r'.syncTimer = .stopped

/-- What one event can do to one stream (R4, R7, R8, R10, R13 to R20, R22). -/
inductive StreamEffect (v w : StreamView) : Prop
  /-- No change of state. -/
  | stays (h : StreamStays v w)
  /-- An OPEN is taken (R4). -/
  | proposed (kept : RecordKept v.record w.record) (src : v.record.state = .closed) (dst : w.record.state = .opening)
      (openPending : w.record.openPending.isSome = true) (closePending : w.record.closePending = v.record.closePending)
  /-- The generation is agreed (R7, R8). -/
  | agreed (kept : RecordKept v.record w.record) (src : v.record.state = .opening) (dst : w.record.state = .opened)
      (openPending : w.record.openPending = none) (closePending : w.record.closePending = v.record.closePending)
      (timer : w.record.syncTimer = .stopped)
  /-- A CLOSE(GRACEFUL) begins a drain (R13). -/
  | drains (tag : Tag) (calm : RecordCalm v.record w.record) (src : v.record.state = .opened)
      (dst : w.record.state = .draining)
      (closePending : w.record.closePending = v.record.closePending ++ [(tag, .graceful)])
  /-- A fault of an OPEN stream (R19). -/
  | faulted (calm : RecordCalm v.record w.record) (src : v.record.state = .opened) (dst : w.record.state = .faulted)
      (closePending : w.record.closePending = v.record.closePending) (list : w.list = [])
  /-- The stream ends: RELEASING, or CLOSED where nothing is to be released (R14 to R18, R20). -/
  | ended (kept : RecordKept v.record w.record)
      (src : v.record.state = .opening ∨ v.record.state = .opened ∨ v.record.state = .draining ∨
        v.record.state = .faulted)
      (openPending : w.record.openPending.isSome =
        if v.record.state = .opening then false else v.record.openPending.isSome)
      (timer : v.record.state = .opening ∨ v.record.syncTimer = .stopped → w.record.syncTimer = .stopped)
      (list : w.list = [] ∨ v.record.state = .faulted ∧ (v.list = [] → w.list = [])) (buffers : w.rx.bufferList = [])
      (dst : (w.record.state = .closed ∧ w.record.closePending = [] ∧ w.rx.releaseList = []) ∨
        (w.record.state = .releasing ∧ w.rx.releaseList ≠ [] ∧
          (v.record.closesLawful = true → w.record.closesLawful = true)))
  /-- The last release record of a RELEASING stream is posted (R18). -/
  | closed (calm : RecordCalm v.record w.record) (src : v.record.state = .releasing) (dst : w.record.state = .closed)
      (closePending : w.record.closePending = []) (list : v.list = [] → w.list = [])
      (buffers : v.rx.bufferList = [] → w.rx.bufferList = []) (releases : w.rx.releaseList = [])

/-- One event's effect on all 64 streams. -/
def StreamsMove (s t : State) : Prop := ∀ i, StreamEffect (s.view i) (t.view i)

/-! ### What follows for the stream records -/

section
variable {v w : StreamView}

/-- The moves of section 1.10. -/
def streamMoves : List (StreamState × StreamState) :=
  [(.closed, .opening), (.opening, .opened), (.opening, .releasing), (.opening, .closed),
    (.opened, .draining), (.opened, .releasing), (.opened, .closed), (.opened, .faulted),
    (.draining, .releasing), (.draining, .closed), (.faulted, .releasing), (.faulted, .closed),
    (.releasing, .closed)]

theorem StreamEffect.state_moves (h : StreamEffect v w) :
    w.record.state = v.record.state ∨ (v.record.state, w.record.state) ∈ streamMoves := by
  cases h with
  | stays h => exact .inl h.state
  | ended _ src _ _ _ _ dst =>
    rcases src with hs | hs | hs | hs <;> rcases dst with ⟨hd, _⟩ | ⟨hd, _⟩ <;> simp [hs, hd, streamMoves]
  | _ => simp [*, streamMoves]

/-- An OPEN is pending exactly while the stream is OPENING (R1). -/
def StreamView.OpenAgrees (v : StreamView) : Prop :=
  v.record.openPending.isSome = decide (v.record.state = .opening)

theorem StreamEffect.keeps_openAgrees (h : StreamEffect v w) (hv : v.OpenAgrees) : w.OpenAgrees := by
  unfold StreamView.OpenAgrees at *
  cases h with
  | stays h => rw [h.openPending, hv, h.state]
  | proposed _ _ dst hp => simp [dst, hp]
  | agreed _ _ dst hp => simp [dst, hp]
  | drains _ calm src dst => simp [calm.openPending, hv, src, dst]
  | faulted calm src dst => simp [calm.openPending, hv, src, dst]
  | closed calm src dst => simp [calm.openPending, hv, src, dst]
  | ended _ src hp _ _ _ dst =>
    have hn : w.record.state ≠ .opening := by rcases dst with ⟨hd, _⟩ | ⟨hd, _⟩ <;> simp [hd]
    rw [hp, hv, decide_eq_false hn]
    split
    · rfl
    · next hs => exact decide_eq_false hs

/-- A stream that has ended is empty (R18, R27, R58). -/
def StreamView.Ended (v : StreamView) : Prop :=
  (v.record.state = .closed → v.list = [] ∧ v.rx.bufferList = [] ∧ v.rx.releaseList = []) ∧
  (v.record.state = .releasing → v.list = [] ∧ v.rx.bufferList = [] ∧ v.rx.releaseList ≠ []) ∧
  (v.record.state = .faulted → v.list = [])

/-- Contexts stand on OPEN and DRAINING streams alone (R71). -/
def StreamView.ContextsStand (v : StreamView) : Prop :=
  v.contexts ≠ [] → v.record.state = .opened ∨ v.record.state = .draining

/-- OPENING, OPEN and DRAINING streams may hold what they like. -/
theorem StreamView.ended_of_open (h : v.record.state = .opening ∨ v.record.state = .opened ∨ v.record.state = .draining) :
    v.Ended := by
  rcases h with h | h | h <;> simp [StreamView.Ended, h]

theorem StreamStays.keeps_ended (h : StreamStays v w) (hc : v.ContextsStand) (hv : v.Ended) : w.Ended := by
  rcases h.lists with hl | hl
  · have ho : v.record.state = .opening ∨ v.record.state = .opened ∨ v.record.state = .draining := by
      rcases hl with hl | hl | hl | hl
      · exact .inl hl
      · exact .inr (.inl hl)
      · exact .inr (.inr hl)
      · exact .inr (hc hl)
    exact StreamView.ended_of_open (h.state.symm ▸ ho)
  · obtain ⟨hclosed, hreleasing, hfaulted⟩ := hv
    rw [StreamView.Ended, h.state]
    refine ⟨fun hs => ?_, fun hs => ?_, fun hs => hl.list (hfaulted hs)⟩
    · obtain ⟨h1, h2, h3⟩ := hclosed hs
      exact ⟨hl.list h1, hl.buffers h2, hl.releases h3⟩
    · obtain ⟨h1, h2, h3⟩ := hreleasing hs
      exact ⟨hl.list h1, hl.buffers h2, hl.waiting hs h3⟩

theorem StreamEffect.keeps_ended (h : StreamEffect v w) (hc : v.ContextsStand) (hv : v.Ended) : w.Ended := by
  cases h with
  | stays h => exact h.keeps_ended hc hv
  | proposed _ _ dst => exact StreamView.ended_of_open (.inl dst)
  | agreed _ _ dst => exact StreamView.ended_of_open (.inr (.inl dst))
  | drains _ _ _ dst => exact StreamView.ended_of_open (.inr (.inr dst))
  | faulted _ _ dst _ list => simp [StreamView.Ended, dst, list]
  | ended _ _ _ _ list buffers dst =>
    have hl : w.list = [] := list.elim id fun ⟨hs, hl⟩ => hl (hv.2.2 hs)
    rcases dst with ⟨hd, _, hr⟩ | ⟨hd, hr, _⟩ <;> simp [StreamView.Ended, hd, hl, buffers, hr]
  | closed _ src dst _ list buffers releases =>
    obtain ⟨hl, hb, _⟩ := hv.2.1 src
    simp [StreamView.Ended, dst, list hl, buffers hb, releases]

/-- The stream record keeps R3, R5, R12 and R86. -/
def StreamView.RecordLawful (v : StreamView) : Prop :=
  v.record.gen = v.record.lastGen ∧ v.record.closesLawful = true ∧
    (v.record.syncTimer ≠ .stopped → v.record.state = .opening) ∧ v.record.history.length ≤ 8

theorem StreamRecord.closesLawful_congr {r r' : StreamRecord} (hs : r'.state = r.state)
    (hp : r'.closePending = r.closePending) : r'.closesLawful = r.closesLawful := by
  rw [closesLawful, closesLawful, hs, hp]

theorem StreamEffect.kept (h : StreamEffect v w) : RecordKept v.record w.record := by
  cases h with
  | stays h => exact h.kept
  | drains _ calm => exact calm.toRecordKept
  | faulted calm => exact calm.toRecordKept
  | closed calm => exact calm.toRecordKept
  | proposed kept => exact kept
  | agreed kept => exact kept
  | ended kept => exact kept

theorem StreamEffect.keeps_closesLawful (h : StreamEffect v w) (hv : v.record.closesLawful = true) :
    w.record.closesLawful = true := by
  cases h with
  | stays h => rwa [StreamRecord.closesLawful_congr h.state h.closePending]
  | ended _ _ _ _ _ _ dst =>
    rcases dst with ⟨hd, hp, _⟩ | ⟨_, _, hp⟩
    · simp [StreamRecord.closesLawful, hd, hp]
    · exact hp hv
  | drains _ _ src dst hp =>
    have hn : v.record.closePending = [] := by simpa [StreamRecord.closesLawful, src] using hv
    simp [StreamRecord.closesLawful, dst, hp, hn]
  | closed _ _ dst hp => simp [StreamRecord.closesLawful, dst, hp]
  | proposed _ src dst _ hp => simpa [StreamRecord.closesLawful, src, dst, hp] using hv
  | agreed _ src dst _ hp => simpa [StreamRecord.closesLawful, src, dst, hp] using hv
  | faulted _ src dst hp => simpa [StreamRecord.closesLawful, src, dst, hp] using hv

/-- The sync timer is stopped outside OPENING (R5). -/
def StreamView.TimerLawful (v : StreamView) : Prop := v.record.syncTimer ≠ .stopped → v.record.state = .opening

theorem StreamEffect.keeps_timerLawful (h : StreamEffect v w) (hv : v.TimerLawful) : w.TimerLawful := by
  have stopped (hs : v.record.state ≠ .opening) : v.record.syncTimer = .stopped := not_imp_comm.mp hv hs
  intro ht
  cases h with
  | stays h => 
    rw [h.state]
    by_contra hs
    exact ht (h.timer hs (stopped hs))
  | proposed _ _ dst => exact dst
  | agreed _ _ _ _ _ timer => exact absurd timer ht
  | drains _ calm src => exact absurd (calm.timer (stopped (by simp [src]))) ht
  | faulted calm src => exact absurd (calm.timer (stopped (by simp [src]))) ht
  | closed calm src => exact absurd (calm.timer (stopped (by simp [src]))) ht
  | ended _ _ _ timer =>
    by_cases hs : v.record.state = .opening
    · exact absurd (timer (.inl hs)) ht
    · exact absurd (timer (.inr (stopped hs))) ht

theorem StreamEffect.keeps_recordLawful (h : StreamEffect v w) (hv : v.RecordLawful) : w.RecordLawful :=
  have ⟨hg, hc, ht, hh⟩ := hv
  ⟨h.kept.gens hg, h.keeps_closesLawful hc, h.keeps_timerLawful ht, h.kept.history hh⟩
end

end Sys2Proof.Machine

namespace Sys2Proof.Machine

set_option Elab.async false -- one thread for each lemma would need more memory than the check allows

/-! ### Views of a changed state -/

section
variable (s : State) (i : StreamId)
theorem State.setStream_view_self (r : StreamRecord) : (s.setStream i r).view i = { s.view i with record := r } := by
  simp [view, contextsOf]
theorem State.setStream_view_ne (r : StreamRecord) {j : StreamId} (h : j ≠ i) : (s.setStream i r).view j = s.view j := by
  simp [view, contextsOf, setStream_stream_ne _ _ _ _ h]
theorem State.setTxs_view_self (t : TxStream) : (s.setTxs i t).view i = { s.view i with list := t.list } := by
  simp [view, contextsOf]
theorem State.setTxs_view_ne (t : TxStream) {j : StreamId} (h : j ≠ i) : (s.setTxs i t).view j = s.view j := by
  simp [view, contextsOf, setTxs_txs_ne _ _ _ _ h]
theorem State.setRxs_view_self (r : RxStream) : (s.setRxs i r).view i = { s.view i with rx := r } := by
  simp [view, contextsOf]
theorem State.setRxs_view_ne (r : RxStream) {j : StreamId} (h : j ≠ i) : (s.setRxs i r).view j = s.view j := by
  simp [view, contextsOf, setRxs_rxs_ne _ _ _ _ h]
end

/-- A view shows three blocks alone. -/
theorem State.view_congr {s t : State} (hst : t.st = s.st) (hte : t.te.tx = s.te.tx) (hre : t.re = s.re) (i : StreamId) :
    t.view i = s.view i := by
  simp only [view, stream, txs, rxs, contextsOf, hst, hte, hre]

theorem State.view_contexts_ne_nil {s : State} {i : StreamId} :
    (s.view i).contexts ≠ [] ↔ ∃ c ∈ s.re.contexts, c.stream = i := by
  simp [view, contextsOf, List.filter_eq_nil_iff]

/-! ### Events that leave every stream and every reservation where it is -/

theorem RecordKept.refl (r : StreamRecord) : RecordKept r r := ⟨id, id⟩

theorem RecordKept.trans {a b c : StreamRecord} (h : RecordKept a b) (h' : RecordKept b c) : RecordKept a c :=
  ⟨h'.gens ∘ h.gens, h'.history ∘ h.history⟩

theorem ListsKept.refl (v : StreamView) : ListsKept v v := ⟨id, id, id, fun _ h => h⟩

theorem StreamStays.refl (v : StreamView) : StreamStays v v :=
  ⟨.refl _, rfl, rfl, rfl, fun _ h => h, .inr (.refl v), id⟩

theorem StreamStays.trans {u v w : StreamView} (h : StreamStays u v) (h' : StreamStays v w) : StreamStays u w where
  kept := h.kept.trans h'.kept
  state := h'.state.trans h.state
  openPending := h'.openPending.trans h.openPending
  closePending := h'.closePending.trans h.closePending
  timer hs ht := h'.timer (h.state.symm ▸ hs) (h.timer hs ht)
  lists := by
    rcases h.lists with hl | hl
    · exact .inl hl
    rcases h'.lists with hl' | hl'
    · exact .inl (h.live hl')
    · exact .inr ⟨hl'.list ∘ hl.list, hl'.buffers ∘ hl.buffers, hl'.releases ∘ hl.releases,
        fun hs hn => hl'.waiting (h.state.trans hs) (hl.waiting hs hn)⟩
  live := h.live ∘ h'.live

/-- The numbers that the reservations are counted by are the same (R146, R160). -/
structure SameAccounts (s t : State) : Prop where
  lists : ∀ i, (t.txs i).list.length = (s.txs i).list.length
  fences : t.ft.length = s.ft.length
  reserved : t.cp.reserved = s.cp.reserved
  unconsumed : t.cp.unconsumed = s.cp.unconsumed
  ring : t.hau.cqRing = s.hau.cqRing
  taking : t.rp.taking = .idle ↔ s.rp.taking = .idle

theorem SameAccounts.refl (s : State) : SameAccounts s s := ⟨fun _ => rfl, rfl, rfl, rfl, rfl, .rfl⟩

theorem SameAccounts.trans {s t u : State} (h : SameAccounts s t) (h' : SameAccounts t u) : SameAccounts s u where
  lists i := (h'.lists i).trans (h.lists i)
  fences := h'.fences.trans h.fences
  reserved := h'.reserved.trans h.reserved
  unconsumed := h'.unconsumed.trans h.unconsumed
  ring := h'.ring.trans h.ring
  taking := h'.taking.trans h.taking

/-- An event that leaves every stream where it is in its life and moves no reservation. -/
structure Routine (s t : State) : Prop where
  streams : ∀ i, StreamStays (s.view i) (t.view i)
  accounts : SameAccounts s t

theorem Routine.refl (s : State) : Routine s s := ⟨fun _ => .refl _, .refl s⟩

theorem Routine.trans {s t u : State} (h : Routine s t) (h' : Routine t u) : Routine s u :=
  ⟨fun i => (h.streams i).trans (h'.streams i), h.accounts.trans h'.accounts⟩

theorem Routine.ite {p : Prop} [Decidable p] {s a b : State} (ha : p → Routine s a) (hb : ¬p → Routine s b) :
    Routine s (if p then a else b) := by
  split
  · next h => exact ha h
  · next h => exact hb h

/-- Nothing but the timers and states of send entries, and what the Link Manager and the Host Access Unit hold. -/
theorem Routine.of_lists {s t : State} (lists : ∀ i, (t.txs i).list.length = (s.txs i).list.length)
    (st : t.st = s.st := by rfl) (re : t.re = s.re := by rfl) (ft : t.ft = s.ft := by rfl)
    (reserved : t.cp.reserved = s.cp.reserved := by rfl) (unconsumed : t.cp.unconsumed = s.cp.unconsumed := by rfl)
    (ring : t.hau.cqRing = s.hau.cqRing := by rfl) (taking : t.rp.taking = .idle ↔ s.rp.taking = .idle := by rfl) :
    Routine s t := by
  refine ⟨fun i => ?_, ⟨lists, by rw [ft], reserved, unconsumed, ring, taking⟩⟩
  have hl : (s.txs i).list = [] → (t.txs i).list = [] := by
    rw [← List.length_eq_zero_iff, ← List.length_eq_zero_iff, lists i]
    exact id
  have hv : t.view i = { s.view i with list := (t.txs i).list } := by
    simp only [State.view, State.stream, State.rxs, State.contextsOf, st, re]
  rw [hv]
  exact ⟨.refl _, rfl, rfl, rfl, fun _ h => h, .inr ⟨hl, id, id, fun _ h => h⟩, id⟩

theorem Routine.of_blocks {s t : State} (te : t.te.tx = s.te.tx := by rfl) (st : t.st = s.st := by rfl)
    (re : t.re = s.re := by rfl) (ft : t.ft = s.ft := by rfl) (reserved : t.cp.reserved = s.cp.reserved := by rfl)
    (unconsumed : t.cp.unconsumed = s.cp.unconsumed := by rfl) (ring : t.hau.cqRing = s.hau.cqRing := by rfl)
    (taking : t.rp.taking = .idle ↔ s.rp.taking = .idle := by rfl) : Routine s t :=
  .of_lists (fun i => by simp only [State.txs, te]) st re ft reserved unconsumed ring taking

theorem Routine.setTxs {s : State} {i : StreamId} {t : TxStream} (h : t.list.length = (s.txs i).list.length) :
    Routine s (s.setTxs i t) := by
  refine .of_lists fun j => ?_
  by_cases hj : j = i
  · subst hj
    simpa using h
  · rw [State.setTxs_txs_ne _ _ _ _ hj]

theorem Routine.setEntry (s : State) (i : StreamId) (m : Msn) (e : SendEntry) : Routine s (s.setEntry i m e) :=
  .setTxs (by simp)

/-- A record that stays in its state with its requests. -/
structure RecordStays (r r' : StreamRecord) : Prop where
  kept : RecordKept r r'
  state : r'.state = r.state
  openPending : r'.openPending.isSome = r.openPending.isSome
  closePending : r'.closePending = r.closePending
  timer : r.state ≠ .opening → r.syncTimer = .stopped → r'.syncTimer = .stopped

theorem RecordStays.view {r : StreamRecord} {v : StreamView} (h : RecordStays v.record r) :
    StreamStays v { v with record := r } where
  kept := h.kept
  state := h.state
  openPending := h.openPending
  closePending := h.closePending
  timer := h.timer
  lists := .inr ⟨id, id, id, fun _ h => h⟩
  live hl := by
    unfold StreamView.Live at *
    rwa [h.state] at hl

/-- A change at one stream that this stream stays in. -/
theorem Routine.of_stream {s t : State} (i : StreamId) (self : StreamStays (s.view i) (t.view i))
    (other : ∀ j, j ≠ i → t.view j = s.view j) (accounts : SameAccounts s t) : Routine s t := by
  refine ⟨fun j => ?_, accounts⟩
  by_cases hj : j = i
  · subst hj
    exact self
  · rw [other j hj]
    exact .refl _

theorem Routine.setStream {s : State} {i : StreamId} {r : StreamRecord} (h : RecordStays (s.stream i) r) :
    Routine s (s.setStream i r) :=
  .of_stream i (by rw [State.setStream_view_self]; exact RecordStays.view h) (fun _ hj => s.setStream_view_ne i r hj)
    ⟨fun _ => rfl, rfl, rfl, rfl, rfl, .rfl⟩

/-- A Live stream takes whatever buffers and release records. -/
theorem Routine.setRxs_live {s : State} {i : StreamId} (h : (s.view i).Live) (r : RxStream) : Routine s (s.setRxs i r) :=
  .of_stream i
    (by rw [State.setRxs_view_self]; exact ⟨.refl _, rfl, rfl, rfl, fun _ h => h, .inl h, id⟩)
    (fun _ hj => s.setRxs_view_ne i r hj) ⟨fun _ => rfl, rfl, rfl, rfl, rfl, .rfl⟩

theorem Routine.setRxs {s : State} {i : StreamId} {r : RxStream} (hb : r.bufferList = (s.rxs i).bufferList)
    (hr : r.releaseList = (s.rxs i).releaseList) : Routine s (s.setRxs i r) := by
  refine .of_stream i ?_ (fun _ hj => s.setRxs_view_ne i r hj) ⟨fun _ => rfl, rfl, rfl, rfl, rfl, .rfl⟩
  rw [State.setRxs_view_self]
  exact ⟨.refl _, rfl, rfl, rfl, fun _ h => h, .inr ⟨id, fun h => hb.trans h, fun h => hr.trans h, fun _ h => hr.symm ▸ h⟩, id⟩

/-- Contexts may change on streams that are Live already. -/
theorem Routine.contexts {s : State} {cs : List ReContext} {n : Nat} (h : ∀ c ∈ cs, (s.view c.stream).Live) :
    Routine s { s with re.contexts := cs, re.nextOccupancy := n } := by
  refine ⟨fun i => ⟨.refl _, rfl, rfl, rfl, fun _ h => h, .inr ⟨id, id, id, fun _ h => h⟩, ?_⟩, ⟨fun _ => rfl, rfl, rfl, rfl, rfl, .rfl⟩⟩
  rintro (hl | hl | hl | hl)
  · exact .inl hl
  · exact .inr (.inl hl)
  · exact .inr (.inr (.inl hl))
  · obtain ⟨c, hc, rfl⟩ := State.view_contexts_ne_nil.mp hl
    exact h c hc

theorem State.live_of_context {s : State} {c : ReContext} (h : c ∈ s.re.contexts) : (s.view c.stream).Live :=
  .inr (.inr (.inr (view_contexts_ne_nil.mpr ⟨c, h, rfl⟩)))

end Sys2Proof.Machine

namespace Sys2Proof.Machine

set_option Elab.async false -- one thread for each lemma would need more memory than the check allows

/-! ### Notices, timers, lanes and the link -/

theorem Routine.produceNotice (n : Notice) (s : State) : Routine s (s.produceNotice n) := by
  rw [State.produceNotice_eq]
  exact .of_blocks

theorem Routine.setLane (l : LaneId) (r : Lane) (s : State) : Routine s (s.setLane l r) := .of_blocks

theorem Routine.transmitLinkDown (s : State) : Routine s s.transmitLinkDown := by
  unfold State.transmitLinkDown
  exact .of_lists fun i => by simp [State.txs]

theorem Routine.transmitLinkUp (s : State) : Routine s s.transmitLinkUp := by
  unfold State.transmitLinkUp
  refine .ite (fun _ => .refl s) fun _ => .of_lists fun i => ?_
  simp [State.txs]

theorem Routine.judgeLink (s : State) : Routine s s.judgeLink := by
  unfold State.judgeLink
  split
  · exact (Routine.of_blocks (s := s) (t := { s with lm.linkState := .up })).trans
      ((transmitLinkUp _).trans .of_blocks)
  · exact (Routine.of_blocks (s := s) (t := { s with lm.linkState := .down, lm.noticeQueue := [] })).trans
      ((transmitLinkDown _).trans .of_blocks)
  · exact .refl s

theorem Routine.seekLane (l : LaneId) (s : State) : Routine s (s.seekLane l) := (setLane l _ s).trans (judgeLink _)

theorem Routine.hearBad (l : LaneId) (s : State) : Routine s (s.hearBad l) := by
  unfold State.hearBad
  refine .ite (fun _ => .refl s) fun _ => ?_
  split
  · exact .refl s
  · exact setLane l _ s
  · exact .ite (fun _ => (setLane l _ s).trans (seekLane l _)) fun _ => setLane l _ s

theorem Routine.silence (l : LaneId) (s : State) : Routine s (s.silence l) :=
  .ite (fun _ => .refl s) fun _ => .ite (fun _ => seekLane l s) fun _ => .refl s

theorem RecordStays.withEvent (r : StreamRecord) (e : Option StreamEvent) : RecordStays r { r with event := e } :=
  ⟨⟨id, id⟩, rfl, rfl, rfl, fun _ h => h⟩

theorem Routine.recordEvent (i : StreamId) (k : EventKind) (g : Gen) (s : State) : Routine s (s.recordEvent i k g) :=
  .setStream (.withEvent _ _)

/-- The sync timer starts on an OPENING stream alone (R5). -/
theorem Routine.sendSync {i : StreamId} {s : State} (h : (s.stream i).state = .opening) : Routine s (s.sendSync i) := by
  have h1 : ∀ n r, Routine s (s.setStream i { s.stream i with syncSent := n, syncTimer := r }) := fun n r =>
    .setStream ⟨⟨id, id⟩, rfl, rfl, rfl, fun hn _ => absurd h hn⟩
  exact (h1 _ _).trans (produceNotice _ _)

theorem Routine.syncExpiry (i : StreamId) (s : State) : Routine s (s.syncExpiry i) :=
  .ite (fun _ => .refl s) fun _ => .ite (fun h => sendSync h.1) fun _ => .refl s

theorem Routine.judgeInterrupt (b : Bool) (s : State) : Routine s (State.judgeInterrupt b s) := by
  obtain ⟨o, ho⟩ := State.judgeInterrupt_eq b s
  rw [ho]
  exact .of_blocks

/-- A halt stops the sync timers and suspends those of send entries (R25, R54). -/
theorem Routine.halt (cause : HaltCause) (a : HostAddr) (s : State) : Routine s (s.halt cause a) := by
  refine .trans ?_ (judgeInterrupt _ _)
  refine ⟨fun i => ?_, ⟨fun i => by simp [State.txs], rfl, rfl, rfl, rfl, .rfl⟩⟩
  refine ⟨⟨?_, ?_⟩, ?_, ?_, ?_, fun _ h => ?_, .inr ⟨fun h => ?_, id, id, fun _ h => h⟩, ?_⟩
  all_goals simp_all [State.view, State.stream, State.txs, State.contextsOf, StreamView.Live]
  all_goals simp [Timer.halt, Timer.isRunning]

theorem Routine.dropRead (id : Nat) (s : State) : Routine s (s.dropRead id) := .of_blocks

theorem Routine.readErrors (id : Nat) (s : State) : Routine s (s.readErrors id) := by
  refine .ite (fun _ => .refl s) fun _ => ?_
  split
  · exact .refl s
  · exact (dropRead id s).trans (halt _ _ _)

theorem Routine.readTimesOut (id : Nat) (s : State) : Routine s (s.readTimesOut id) := by
  refine .ite (fun _ => .refl s) fun _ => ?_
  split
  · exact .refl s
  · exact .ite (fun _ => halt _ _ s) fun _ => .refl s

/-! ### Reads, slicer slots and placements -/

theorem Routine.issueRead (o : ReadOwner) (a : HostAddr) (n : Nat) (s : State) : Routine s (s.issueRead o a n) :=
  .of_blocks

theorem Routine.issueRecordRead {s : State} (h : s.rp.taking ≠ .idle) : Routine s s.issueRecordRead :=
  .of_blocks (taking := by simp [State.issueRecordRead, h])

theorem Routine.sliceReadIssue (s : State) : Routine s s.sliceReadIssue := by
  refine .ite (fun _ => ?_) fun _ => .refl s
  split
  · exact .refl s
  · split
    · exact .refl s
    · split
      · exact .refl s
      · exact .of_blocks

theorem Routine.receiveSliceData (id : Nat) (data : List Byte) (s : State) : Routine s (s.receiveSliceData id data) := by
  unfold State.receiveSliceData
  split
  · exact .refl s
  · split
    · exact .refl s
    · refine .ite (fun _ => (dropRead id s).trans (.ite (fun _ => .refl _) fun _ => ?_)) fun _ => .of_blocks
      split
      · exact .refl _
      · exact .ite (fun _ => .of_blocks) fun _ => .refl _

theorem Routine.slotFill (s : State) : Routine s s.slotFill := by
  refine .ite (fun _ => ?_) fun _ => .refl s
  split
  · split
    · exact (setEntry _ _ _ _).trans .of_blocks
    · exact .refl s
  · exact .refl s

theorem Routine.acceptSlice (l : LaneId) (k : SlotId) (w : SlotWork) (e : SendEntry) (data : List Byte) (s : State) :
    Routine s (s.acceptSlice l k w e data) := by
  have h : ∀ u : SliceUnit, ∀ n, Routine s { (s.placeUnit l (.slice u)).setTxs w.stream
      { (s.placeUnit l (.slice u)).txs w.stream with slicesSent := n } with te.offerPointer := k } := fun u n =>
    (Routine.of_blocks (t := s.placeUnit l (.slice u))).trans
      ((Routine.setTxs (i := w.stream) (t := { (s.placeUnit l (.slice u)).txs w.stream with slicesSent := n }) rfl).trans
        .of_blocks)
  refine .ite (fun _ => ?_) fun _ => ?_
  · exact (h _ _).trans ((setEntry _ _ _ _).trans .of_blocks)
  · exact (h _ _).trans .of_blocks

theorem Routine.placement (s : State) : Routine s s.placement := by
  refine .ite (fun _ => .refl s) fun _ => ?_
  split
  · exact .refl s
  · split
    · exact .of_blocks
    · split
      · exact .refl s
      · split
        · exact .refl s
        · split
          · exact acceptSlice _ _ _ _ _ s
          · exact .refl s

theorem Routine.transmit (l : LaneId) (s : State) : Routine s (s.transmit l) := by
  unfold State.transmit
  split
  · exact .refl s
  · exact .of_blocks
  · exact .of_blocks
  · split <;> exact .of_blocks

theorem Routine.applyDefer (i : StreamId) (g : Gen) (m : Msn) (a : Attempt) (s : State) :
    Routine s (s.applyDefer i g m a) := by
  unfold State.applyDefer
  split
  · exact .refl s
  · refine .ite (fun _ => ?_) fun _ => .refl s
    exact (Routine.of_blocks (t := s.freeSlotOf i _)).trans ((setEntry _ _ _ _).trans (.setTxs rfl))

theorem Routine.holdoffExpiry (i : StreamId) (m : Msn) (s : State) : Routine s (s.holdoffExpiry i m) := by
  refine .ite (fun _ => .refl s) fun _ => ?_
  split
  · exact .refl s
  · exact .ite (fun _ => setEntry _ _ _ _) fun _ => .refl s

/-! ### The write queue -/

theorem Routine.backlogMove (s : State) : Routine s s.backlogMove := by
  unfold State.backlogMove
  split
  · exact .refl s
  · exact .ite (fun _ => .of_blocks) fun _ => .refl s

theorem Routine.recordWriteDeparts (s : State) : Routine s s.recordWriteDeparts := by
  unfold State.recordWriteDeparts
  split
  · exact .of_blocks
  · exact .refl s

theorem Routine.interruptMessage (msi : Bool) (s : State) : Routine s (s.interruptMessage msi) := by
  refine .ite (fun _ => .ite (fun _ => .of_blocks) fun _ => .of_blocks) fun _ => .refl s

/-! ### The Receive Engine -/

theorem Routine.countStray (s : State) (i : StreamId) : Routine s (s.countStray i) := .setRxs rfl rfl

theorem Routine.setContext {c : ReContext} {s : State} (h : (s.view c.stream).Live) : Routine s (s.setContext c) := by
  refine .contexts (n := s.re.nextOccupancy) fun d hd => ?_
  obtain ⟨b, hb, rfl⟩ := List.mem_map.mp hd
  split
  · exact h
  · exact State.live_of_context hb

theorem Routine.freeContext (n : Nat) (s : State) : Routine s (s.freeContext n) :=
  .contexts (n := s.re.nextOccupancy) fun _ hd => State.live_of_context (List.mem_filter.mp hd).1

theorem pushHistory_length {h : List (Msn × DeliveryOutcome)} (hn : h.length ≤ 8) (p : Msn × DeliveryOutcome) :
    (pushHistory h p).length ≤ 8 := by
  unfold pushHistory Config.historyLimit
  split
  · simp; omega
  · simp; omega

/-- A delivery is made on a stream that has a context (R85). -/
theorem Routine.deliver {i : StreamId} {c : ReContext} {s : State} (h : (s.view i).Live) : Routine s (s.deliver i c) := by
  have history (u : State) (p : Msn × DeliveryOutcome) :
      Routine u (u.setStream i { u.stream i with history := pushHistory (u.stream i).history p }) :=
    .setStream ⟨⟨id, fun hn => pushHistory_length hn p⟩, rfl, rfl, rfl, fun _ h => h⟩
  have advance (u : State) (m : Msn) : Routine u (u.setRxs i { u.rxs i with rxExpected := m }) := .setRxs rfl rfl
  exact (setRxs_live h _).trans ((history _ _).trans ((freeContext _ _).trans (advance _ _)))

theorem Routine.deliverUpTo (i : StreamId) (n : Nat) (s : State) : Routine s (s.deliverUpTo i n) := by
  induction n generalizing s with
  | zero => exact .refl s
  | succ n ih =>
    unfold State.deliverUpTo
    split
    · exact .refl s
    · next c hc =>
      have hm := List.mem_of_find?_eq_some hc
      have hp := List.find?_some hc
      have hi : c.stream = i := by
        simp only [Bool.and_eq_true, decide_eq_true_eq] at hp
        exact hp.1.1
      exact (deliver (hi ▸ State.live_of_context hm)).trans (ih _)

theorem Routine.deliveryCheck (i : StreamId) (s : State) : Routine s (s.deliveryCheck i) := deliverUpTo i _ s

theorem ReContext.merged_stream (c : ReContext) (u : SliceUnit) : (c.merged u).stream = c.stream := by
  simp only [merged]
  generalize (if u.last then some (u.index.toNat, u.payload.length) else c.lastSlice) = o
  cases o with
  | none => rfl
  | some p => exact (apply_ite ReContext.stream _ _ _).trans (ite_self _)

theorem Routine.mergeSlice {c : ReContext} {s : State} (u : SliceUnit) (h : (s.view c.stream).Live) :
    Routine s (s.mergeSlice c u) := by
  refine .ite (fun _ => .refl s) fun _ => .ite (fun _ => countStray s _) fun _ => .ite (fun _ => ?_) fun _ =>
    .ite (fun _ => ?_) fun _ => .refl s
  · have ho := (setContext (c := { c with state := .oversize }) h).trans (produceNotice
      (.reject c.stream (s.stream c.stream).gen c.msn .tooLong) _)
    exact .ite (fun _ => ho.trans (deliveryCheck _ _)) fun _ => ho
  · exact (setContext (c := c.merged u) ((c.merged_stream u).symm ▸ h)).trans .of_blocks

theorem Routine.sliceForContext {c : ReContext} {s : State} (u : SliceUnit) (h : (s.view c.stream).Live) :
    Routine s (s.sliceForContext c u) := by
  unfold State.sliceForContext
  split
  · exact mergeSlice u h
  · exact .refl s
  · exact produceNotice _ s
  · exact produceNotice _ s

theorem Routine.deferSlice (u : SliceUnit) (reason : DeferReason) (s : State) : Routine s (s.deferSlice u reason) := by
  have note (u : State) (i : StreamId) (n : Option (Msn × Attempt)) :
      Routine u (u.setStream i { u.stream i with deferralNote := n }) :=
    .setStream ⟨⟨id, id⟩, rfl, rfl, rfl, fun _ h => h⟩
  have count (u : State) (i : StreamId) (n : BitVec 16) : Routine u (u.setRxs i { u.rxs i with defersSent := n }) :=
    .setRxs rfl rfl
  exact .ite (fun _ => .refl s) fun _ => (produceNotice _ s).trans ((note _ _ _).trans (count _ _ _))

theorem Routine.newMessage {u : SliceUnit} {s : State} (h : (s.view u.stream).Live) : Routine s (s.newMessage u) := by
  unfold State.newMessage
  split
  · exact deferSlice u _ s
  · next b rest _ =>
    refine .ite (fun _ => ?_) fun _ => deferSlice u _ s
    have h1 : Routine s (s.setRxs u.stream { s.rxs u.stream with bufferList := rest }) := setRxs_live h _
    have hn : ((s.setRxs u.stream { s.rxs u.stream with bufferList := rest }).view u.stream).Live := by
      rw [State.setRxs_view_self]
      exact h
    have h2 : Routine (s.setRxs u.stream { s.rxs u.stream with bufferList := rest })
        { s.setRxs u.stream { s.rxs u.stream with bufferList := rest } with
          re.contexts := s.re.contexts ++ [newContext u.stream u.msn b s.re.nextOccupancy]
          re.nextOccupancy := s.re.nextOccupancy + 1 } := by
      refine .contexts fun c hc => ?_
      rcases List.mem_append.mp hc with hc | hc
      · exact State.live_of_context (s := s.setRxs u.stream { s.rxs u.stream with bufferList := rest }) hc
      · obtain rfl := List.mem_singleton.mp hc
        exact hn
    refine h1.trans (h2.trans (mergeSlice u (State.live_of_context ?_)))
    simp

theorem State.live_of_contextFor {s : State} {i : StreamId} {m : Msn} {c : ReContext} (h : s.contextFor i m = some c) :
    (s.view c.stream).Live := live_of_context (List.mem_of_find?_eq_some h)

theorem Routine.sliceOnOpen {u : SliceUnit} {s : State} (h : (s.view u.stream).Live) : Routine s (s.sliceOnOpen u) := by
  refine .ite (fun _ => .ite (fun _ => ?_) fun _ => .ite (fun _ => ?_) fun _ => countStray s _) fun _ => countStray s _
  · split
    · next c hc => exact sliceForContext u (State.live_of_contextFor hc)
    · exact newMessage h
  · unfold State.behindWindow
    split
    · exact produceNotice _ s
    · exact produceNotice _ s
    · exact countStray s _

theorem Routine.sliceArrives (u : SliceUnit) (s : State) : Routine s (s.sliceArrives u) := by
  refine .ite (fun _ => ?_) fun _ => countStray s _
  split
  · exact produceNotice _ s
  · exact produceNotice _ s
  · exact produceNotice _ s
  · exact .refl s
  · next ho => exact sliceOnOpen (.inr (.inl ho))
  · next hd => exact sliceOnOpen (.inr (.inr (.inl hd)))

theorem Routine.writeDeparted {c : ReContext} {s : State} (h : (s.view c.stream).Live) : Routine s (s.writeDeparted c) := by
  refine .ite (fun _ => ?_) fun _ => setContext (c := { c with writesOutstanding := c.writesOutstanding - 1 }) h
  split
  · exact (setContext (c := { c with writesOutstanding := c.writesOutstanding - 1, state := .complete }) h).trans
      ((produceNotice _ _).trans (deliveryCheck _ _))
  · exact (setContext (c := { c with writesOutstanding := c.writesOutstanding - 1 }) h).trans (deliveryCheck _ _)
  · exact setContext (c := { c with writesOutstanding := c.writesOutstanding - 1 }) h

theorem Routine.dataWriteDeparts (s : State) : Routine s s.dataWriteDeparts := by
  unfold State.dataWriteDeparts
  split
  · next occupancy address payload rest _ =>
    refine .trans (t := State.emit { s with hau.writeQueue := rest } (.hostWrite address payload)) .of_blocks ?_
    dsimp only
    split
    · exact .refl _
    · next c hc => exact writeDeparted (State.live_of_context (List.mem_of_find?_eq_some hc))
  · exact .refl s

end Sys2Proof.Machine

namespace Sys2Proof.Machine

set_option Elab.async false -- one thread for each lemma would need more memory than the check allows

/-! ### Views after the shared operations -/

section
variable (s : State) (i j : StreamId)
@[simp] theorem State.withPosted_view (cs : List Completion) : (s.withPosted cs).view j = s.view j :=
  view_congr (by simp) (by simp) (by simp) j
@[simp] theorem State.postRecord_view (c : Completion) : (s.postRecord c).view j = s.view j := by
  rw [postRecord_eq]; rfl
@[simp] theorem State.postReserved_view (c : Completion) : (s.postReserved c).view j = s.view j := by
  rw [postReserved_eq, withPosted_view]
@[simp] theorem State.postDone_view (k : RequestKind) (tag : Tag) (x : Status) (b : DoneBody) :
    (s.postDone k i tag x b).view j = s.view j := postReserved_view s j _
@[simp] theorem State.produceNotice_view (n : Notice) : (s.produceNotice n).view j = s.view j :=
  view_congr (by simp) (by simp) (by simp) j
@[simp] theorem State.freeSlotsOfStream_view : (s.freeSlotsOfStream i).view j = s.view j := rfl
@[simp] theorem State.freeSlotOf_view (m : Msn) : (s.freeSlotOf i m).view j = s.view j := rfl

@[simp] theorem State.reportRetirement_view (failed : Bool) : (s.reportRetirement i failed).view j = s.view j := by
  unfold reportRetirement
  rw [postFences_eq, withPosted_view]
  rfl

@[simp] theorem State.retireAll_view (es : List SendEntry) : (s.retireAll i es).view j = s.view j := by
  unfold retireAll
  induction es generalizing s with
  | nil => rfl
  | cons e es ih => rw [List.foldl_cons, ih, retireEntry, reportRetirement_view, postDone_view]

theorem State.setList_view_self (l : List SendEntry) : (s.setList i l).view i = { s.view i with list := l } :=
  setTxs_view_self s i _
theorem State.setList_view_ne (l : List SendEntry) {j : StreamId} (h : j ≠ i) : (s.setList i l).view j = s.view j :=
  setTxs_view_ne s i _ h

theorem State.failList_view_self (cause : ListFailure) : (s.failList i cause).view i = { s.view i with list := [] } := by
  rw [failList, retireAll_view, setList_view_self, freeSlotsOfStream_view]
theorem State.failList_view_ne (cause : ListFailure) {j : StreamId} (h : j ≠ i) :
    (s.failList i cause).view j = s.view j := by
  rw [failList, retireAll_view, setList_view_ne _ _ _ h, freeSlotsOfStream_view]

theorem State.retireHeads_view_self : (s.retireHeads i).view i =
    { s.view i with list := (s.txs i).list.dropWhile SendEntry.finished } := by
  rw [retireHeads, retireAll_view, setList_view_self]
theorem State.retireHeads_view_ne {j : StreamId} (h : j ≠ i) : (s.retireHeads i).view j = s.view j := by
  rw [retireHeads, retireAll_view, setList_view_ne _ _ _ h]

theorem State.flush_view_self (reason : ReturnReason) : (s.flush i reason).view i =
    { s.view i with
      rx := { s.rxs i with releaseList := (s.rxs i).releaseList ++ s.flushed i reason }
      contexts := [] } := by
  rw [flush, appendRelease, setRxs_view_self]
  have hc : (s.re.contexts.filter fun c => decide (c.stream ≠ i)).filter (fun c => decide (c.stream = i)) = [] := by
    simp [List.filter_filter]
  exact congrArg (StreamView.mk _ _ _) hc
theorem State.flush_view_ne (reason : ReturnReason) {j : StreamId} (h : j ≠ i) :
    (s.flush i reason).view j = s.view j := by
  rw [flush, appendRelease, setRxs_view_ne _ _ _ h]
  have hc : ∀ c : ReContext, (decide (c.stream = j) && decide (c.stream ≠ i)) = decide (c.stream = j) := by
    intro c
    by_cases hj : c.stream = j <;> simp [hj, h]
  simp only [view, contextsOf, List.filter_filter, hc]
  rfl

theorem State.releaseBuffers_view_self : (s.releaseBuffers i).view i = { s.view i with
    rx := { s.rxs i with bufferList := [], releaseList := (s.rxs i).releaseList ++ s.listReturned i } } :=
  setRxs_view_self s i _
theorem State.releaseBuffers_view_ne {j : StreamId} (h : j ≠ i) : (s.releaseBuffers i).view j = s.view j :=
  setRxs_view_ne s i _ h

theorem State.enterReleasing_view_self (cause : ReleaseCause) : (s.enterReleasing i cause).view i = { s.view i with
    record := if (s.rxs i).releaseList = [] then
        { s.stream i with state := .closed, releaseCause := cause, closePending := [] }
      else { s.stream i with state := .releasing, releaseCause := cause } } := by
  rw [enterReleasing_eq]
  split
  · rw [withPosted_view, setStream_view_self]
  · rw [setStream_view_self]
theorem State.enterReleasing_view_ne (cause : ReleaseCause) {j : StreamId} (h : j ≠ i) :
    (s.enterReleasing i cause).view j = s.view j := by
  rw [enterReleasing_eq]
  split
  · rw [withPosted_view, setStream_view_ne _ _ _ h]
  · rw [setStream_view_ne _ _ _ h]

theorem State.finishOpen_view_self (status : Status) :
    (s.finishOpen i status).view i = { s.view i with record := { s.stream i with openPending := none } } := by
  cases h : (s.stream i).openPending with
  | none =>
    have hr : { s.stream i with openPending := none } = s.stream i := by rw [← h]
    simp only [finishOpen, h, hr]
    rfl
  | some tag => simp only [finishOpen, h, postDone_view, setStream_view_self]
theorem State.finishOpen_view_ne (status : Status) {j : StreamId} (h : j ≠ i) :
    (s.finishOpen i status).view j = s.view j := by
  cases ho : (s.stream i).openPending with
  | none => simp only [finishOpen, ho]
  | some tag => simp only [finishOpen, ho, postDone_view, setStream_view_ne _ _ _ h]

theorem State.recordEvent_view_ne (k : EventKind) (g : Gen) {j : StreamId} (h : j ≠ i) :
    (s.recordEvent i k g).view j = s.view j := setStream_view_ne s i _ h

theorem State.sendSync_view_ne {j : StreamId} (h : j ≠ i) : (s.sendSync i).view j = s.view j := by
  rw [sendSync, produceNotice_view, setStream_view_ne _ _ _ h]

theorem State.resetSequences_view_self : (s.resetSequences i).view i =
    { s.view i with rx := { s.rxs i with rxExpected := 0 } } := by
  rw [resetSequences, setRxs_view_self, setTxs_view_self]
  rfl
theorem State.resetSequences_view_ne {j : StreamId} (h : j ≠ i) : (s.resetSequences i).view j = s.view j := by
  rw [resetSequences, setRxs_view_ne _ _ _ h, setTxs_view_ne _ _ _ h]

theorem State.endDrain_view_ne {j : StreamId} (h : j ≠ i) : (s.endDrain i).view j = s.view j := by
  rw [endDrain, enterReleasing_view_ne _ _ _ h, releaseBuffers_view_ne _ _ h, flush_view_ne _ _ _ h]
theorem State.endDrainIfEmpty_view_ne {j : StreamId} (h : j ≠ i) : (s.endDrainIfEmpty i).view j = s.view j := by
  unfold endDrainIfEmpty
  split
  · exact endDrain_view_ne s i h
  · rfl
end

/-! ### Effects on one stream -/

/-- An event that touches one stream. -/
structure MovesOne (i : StreamId) (s t : State) : Prop where
  self : StreamEffect (s.view i) (t.view i)
  other : ∀ j, j ≠ i → t.view j = s.view j

theorem StreamEffect.refl (v : StreamView) : StreamEffect v v := .stays (.refl v)

theorem StreamsMove.refl (s : State) : StreamsMove s s := fun _ => .refl _

theorem StreamsMove.of_views {s t : State} (h : ∀ i, t.view i = s.view i) : StreamsMove s t := fun i => by
  rw [h i]
  exact .refl _

theorem Routine.streamsMove {s t : State} (h : Routine s t) : StreamsMove s t := fun i => .stays (h.streams i)

theorem MovesOne.refl (i : StreamId) (s : State) : MovesOne i s s := ⟨.refl _, fun _ _ => rfl⟩

theorem MovesOne.of_views {i : StreamId} {s t : State} (h : ∀ j, t.view j = s.view j) : MovesOne i s t :=
  ⟨StreamsMove.of_views h i, fun j _ => h j⟩

theorem MovesOne.streamsMove {i : StreamId} {s t : State} (h : MovesOne i s t) : StreamsMove s t := fun j => by
  by_cases hj : j = i
  · exact hj ▸ h.self
  · rw [h.other j hj]
    exact .refl _

theorem StreamsMove.ite {p : Prop} [Decidable p] {s a b : State} (ha : p → StreamsMove s a) (hb : ¬p → StreamsMove s b) :
    StreamsMove s (if p then a else b) := by
  split
  · next h => exact ha h
  · next h => exact hb h

theorem MovesOne.ite {p : Prop} [Decidable p] {i : StreamId} {s a b : State} (ha : p → MovesOne i s a)
    (hb : ¬p → MovesOne i s b) : MovesOne i s (if p then a else b) := by
  split
  · next h => exact ha h
  · next h => exact hb h

/-- The entry to RELEASING ends a stream whose lists the event has cleared (R18). -/
theorem StreamEffect.enterReleasing {u v : StreamView} {s : State} {i : StreamId} {cause : ReleaseCause}
    (hu : s.view i = u) (kept : RecordKept v.record u.record)
    (src : v.record.state = .opening ∨ v.record.state = .opened ∨ v.record.state = .draining ∨ v.record.state = .faulted)
    (openPending : u.record.openPending.isSome = if v.record.state = .opening then false else v.record.openPending.isSome)
    (timer : v.record.state = .opening ∨ v.record.syncTimer = .stopped → u.record.syncTimer = .stopped)
    (list : u.list = [] ∨ v.record.state = .faulted ∧ (v.list = [] → u.list = []))
    (buffers : u.rx.bufferList = [])
    (closes : v.record.closesLawful = true → { u.record with state := .releasing }.closesLawful = true) :
    StreamEffect v ((s.enterReleasing i cause).view i) := by
  subst hu
  rw [State.enterReleasing_view_self]
  by_cases h : (s.rxs i).releaseList = []
  · rw [if_pos h]
    exact .ended ⟨kept.gens, kept.history⟩ src openPending timer list buffers (.inl ⟨rfl, rfl, h⟩)
  · rw [if_neg h]
    exact .ended ⟨kept.gens, kept.history⟩ src openPending timer list buffers (.inr ⟨rfl, h, closes⟩)

/-- `StreamEffect.enterReleasing` for a stream that was not OPENING. -/
theorem StreamEffect.enterReleasing_calm {u v : StreamView} {s : State} {i : StreamId} {cause : ReleaseCause}
    (hu : s.view i = u) (calm : RecordCalm v.record u.record)
    (src : v.record.state = .opened ∨ v.record.state = .draining ∨ v.record.state = .faulted)
    (list : u.list = [] ∨ v.record.state = .faulted ∧ (v.list = [] → u.list = []))
    (buffers : u.rx.bufferList = [])
    (closes : v.record.closesLawful = true → { u.record with state := .releasing }.closesLawful = true) :
    StreamEffect v ((s.enterReleasing i cause).view i) := by
  have hn : v.record.state ≠ .opening := by rcases src with h | h | h <;> simp [h]
  exact .enterReleasing hu calm.toRecordKept (.inr src) (by rw [if_neg hn, calm.openPending])
    (fun ht => calm.timer (ht.resolve_left hn)) list buffers closes

/-- A DRAINING stream has one pending CLOSE, with which it may become RELEASING (R12). -/
theorem StreamRecord.closesLawful_of_draining {r r' : StreamRecord} (hd : r.state = .draining) (hs : r'.state = .releasing)
    (hp : r'.closePending = r.closePending) (h : r.closesLawful = true) : r'.closesLawful = true := by
  have hg : r.closePending.map Prod.snd = [.graceful] := by simpa [closesLawful, hd] using h
  have hl : r.closePending.length = 1 := by simpa using congrArg List.length hg
  simp [closesLawful, hs, hp, hl]

/-- The end of a drain, in an event that has kept the stream DRAINING (R14). -/
theorem StreamEffect.endDrain {u v : StreamView} {s : State} {i : StreamId} (hu : s.view i = u)
    (calm : RecordCalm v.record u.record) (src : v.record.state = .draining)
    (closePending : u.record.closePending = v.record.closePending) (list : u.list = []) :
    StreamEffect v ((s.endDrain i).view i) := by
  have hv := State.releaseBuffers_view_self (s.flush i .streamClosed) i
  rw [State.flush_view_self, hu] at hv
  exact .enterReleasing_calm hv ⟨calm.toRecordKept, calm.openPending, calm.timer⟩ (.inr (.inl src)) (.inl list) rfl
    (StreamRecord.closesLawful_of_draining src rfl closePending)

end Sys2Proof.Machine

namespace Sys2Proof.Machine

set_option Elab.async false -- one thread for each lemma would need more memory than the check allows

/-! ### Requests on a stream -/

theorem State.stream_of_view {s : State} {i : StreamId} {v : StreamView} (h : s.view i = v) : s.stream i = v.record :=
  congrArg StreamView.record h
theorem State.list_of_view {s : State} {i : StreamId} {v : StreamView} (h : s.view i = v) : (s.txs i).list = v.list :=
  congrArg StreamView.list h
theorem State.rxs_of_view {s : State} {i : StreamId} {v : StreamView} (h : s.view i = v) : s.rxs i = v.rx :=
  congrArg StreamView.rx h

/-- An OPEN on a CLOSED stream proposes; elsewhere it moves nothing (R4). -/
theorem MovesOne.takeOpen (i : StreamId) (tag : Tag) (s : State) : MovesOne i s (s.takeOpen i tag) := by
  unfold State.takeOpen
  split
  · next hs =>
    refine ⟨?_, fun j hj => ?_⟩
    · dsimp only
      rw [State.sendSync, State.produceNotice_view, State.setStream_view_self, State.setStream_stream_self]
      exact .proposed ⟨fun _ => rfl, fun _ => Nat.zero_le _⟩ hs rfl rfl (by simp [State.resetSequences, State.view])
    · dsimp only
      rw [State.sendSync_view_ne _ _ hj, State.setStream_view_ne _ _ _ hj, State.resetSequences_view_ne _ _ hj]
  · exact .of_views fun j => by simp

theorem State.addClose_view_self (s : State) (i : StreamId) (tag : Tag) (mode : CloseMode) :
    (s.addClose i tag mode).view i =
      { s.view i with record := { s.stream i with closePending := (s.stream i).closePending ++ [(tag, mode)] } } :=
  s.setStream_view_self i _

theorem State.addClose_view_ne (s : State) (i : StreamId) (tag : Tag) (mode : CloseMode) {j : StreamId} (h : j ≠ i) :
    (s.addClose i tag mode).view j = s.view j := s.setStream_view_ne i _ h

/-- A CLOSE makes a lawful RELEASING record out of a lawful one (R12). -/
theorem StreamRecord.closesLawful_addClose {r r' : StreamRecord} {tag : Tag} {mode : CloseMode}
    (hr : r.state ≠ .releasing) (hd : r.state = .draining → mode = .immediate) (hs : r'.state = .releasing)
    (hp : r'.closePending = r.closePending ++ [(tag, mode)]) (h : r.closesLawful = true) : r'.closesLawful = true := by
  cases hx : r.state with
  | releasing => exact absurd hx hr
  | draining =>
    have hg : r.closePending.map Prod.snd = [.graceful] := by simpa [closesLawful, hx] using h
    simp [closesLawful, hs, hp, hg, hd hx]
  | _ =>
    have hn : r.closePending = [] := by simpa [closesLawful, hx] using h
    simp [closesLawful, hs, hp, hn]

theorem RecordCalm.addClose (r : StreamRecord) (l : List (Tag × CloseMode)) : RecordCalm r { r with closePending := l } :=
  ⟨⟨id, id⟩, rfl, id⟩

/-- CLOSE(IMMEDIATE) on an OPEN or DRAINING stream (R15). -/
theorem MovesOne.closeNow {i : StreamId} {s : State} (tag : Tag)
    (h : (s.stream i).state = .opened ∨ (s.stream i).state = .draining) :
    MovesOne i s ((s.addClose i tag .immediate).closeNow i) := by
  refine ⟨?_, fun j hj => ?_⟩
  · have hv := State.releaseBuffers_view_self
      (((s.addClose i tag .immediate).failList i .closedLocally).flush i .streamClosed) i
    rw [State.flush_view_self, State.failList_view_self, State.addClose_view_self] at hv
    have hr : (s.stream i).state ≠ .releasing := by rcases h with h | h <;> simp [h]
    exact .enterReleasing_calm hv (.addClose _ _) (h.imp_right .inl) (.inl rfl) rfl
      (StreamRecord.closesLawful_addClose hr (fun _ => rfl) rfl rfl)
  · rw [State.closeNow, State.enterReleasing_view_ne _ _ _ hj, State.releaseBuffers_view_ne _ _ hj,
      State.flush_view_ne _ _ _ hj, State.failList_view_ne _ _ _ hj, State.addClose_view_ne _ _ _ _ hj]

/-- A CLOSE on an OPENING stream (R16). -/
theorem MovesOne.cancelOpening {i : StreamId} {s : State} (tag : Tag) (mode : CloseMode)
    (h : (s.stream i).state = .opening) : MovesOne i s ((s.addClose i tag mode).cancelOpening i) := by
  refine ⟨?_, fun j hj => ?_⟩
  · have hv := fun u : State => State.releaseBuffers_view_self (u.failList i .closedLocally) i
    simp only [State.failList_view_self] at hv
    refine .enterReleasing (hv _) ?_ (.inl h) ?_ ?_ (.inl rfl) rfl ?_
    all_goals simp only [State.finishOpen_view_self, State.addClose, State.setStream_stream_self, State.setStream_twice]
    · exact ⟨id, id⟩
    · exact (if_pos h).symm
    · exact fun _ => trivial
    · exact StreamRecord.closesLawful_addClose (by simp [State.view, h]) (by simp [State.view, h]) rfl rfl
  · rw [State.cancelOpening, State.enterReleasing_view_ne _ _ _ hj, State.releaseBuffers_view_ne _ _ hj,
      State.failList_view_ne _ _ _ hj, State.finishOpen_view_ne _ _ _ hj, State.setStream_view_ne _ _ _ hj,
      State.addClose_view_ne _ _ _ _ hj]

/-- A CLOSE on a FAULTED stream (R17). -/
theorem MovesOne.closeFaulted {i : StreamId} {s : State} (tag : Tag) (mode : CloseMode)
    (h : (s.stream i).state = .faulted) :
    MovesOne i s (((s.addClose i tag mode).releaseBuffers i).enterReleasing i .closed) := by
  refine ⟨?_, fun j hj => ?_⟩
  · have hv := State.releaseBuffers_view_self (s.addClose i tag mode) i
    rw [State.addClose_view_self] at hv
    exact .enterReleasing_calm hv (.addClose _ _) (.inr (.inr h)) (.inr ⟨h, id⟩) rfl
      (StreamRecord.closesLawful_addClose (by simp [State.view, h]) (by simp [State.view, h]) rfl rfl)
  · rw [State.enterReleasing_view_ne _ _ _ hj, State.releaseBuffers_view_ne _ _ hj, State.addClose_view_ne _ _ _ _ hj]

/-- CLOSE(GRACEFUL) on an OPEN stream (R13, R14). -/
theorem MovesOne.closeOpen {i : StreamId} {s : State} (tag : Tag) (h : (s.stream i).state = .opened) :
    MovesOne i s (((s.addClose i tag .graceful).setState i .draining).endDrainIfEmpty i) := by
  have hv : ((s.addClose i tag .graceful).setState i .draining).view i = { s.view i with
      record := { s.stream i with
        state := .draining, closePending := (s.stream i).closePending ++ [(tag, .graceful)] } } := by
    rw [State.setState, State.setStream_view_self, State.addClose_view_self]
    simp [State.addClose]
  refine ⟨?_, fun j hj => ?_⟩
  · unfold State.endDrainIfEmpty
    split
    · next hd =>
      have hf := State.releaseBuffers_view_self
        (((s.addClose i tag .graceful).setState i .draining).flush i .streamClosed) i
      rw [State.flush_view_self, hv] at hf
      exact .enterReleasing_calm hf ⟨⟨id, id⟩, rfl, id⟩ (.inl h) (.inl ((State.list_of_view hv).symm.trans hd.2)) rfl
        (StreamRecord.closesLawful_addClose (by simp [State.view, h]) (by simp [State.view, h]) rfl rfl)
    · rw [hv]
      exact .drains tag ⟨⟨id, id⟩, rfl, id⟩ h rfl rfl
  · rw [State.endDrainIfEmpty_view_ne _ _ hj, State.setState, State.setStream_view_ne _ _ _ hj,
      State.addClose_view_ne _ _ _ _ hj]

/-- What a CLOSE can do (R12 to R17). -/
theorem MovesOne.takeClose (i : StreamId) (tag : Tag) (mode : CloseMode) (s : State) :
    MovesOne i s (s.takeClose i tag mode) := by
  have refused : MovesOne i s (s.postDone .closeStream i tag .wrongState (.closeDone mode)) :=
    .of_views fun j => by simp
  unfold State.takeClose
  dsimp only
  split
  · next h => exact cancelOpening tag _ h
  · next h => exact closeOpen tag h
  · next h => exact closeNow tag (.inl h)
  · next h => exact closeNow tag (.inr h)
  · next h => exact closeFaulted tag _ h
  · exact refused

end Sys2Proof.Machine

namespace Sys2Proof.Machine

set_option Elab.async false -- one thread for each lemma would need more memory than the check allows

/-! ### Retirement, faults and generations -/

/-- Retirement after a change of the stream's list; it may end a drain (R14, R47). -/
theorem MovesOne.retire {i : StreamId} {s t : State} (hv : ∃ l, t.view i = { s.view i with list := l } ∧
    ((s.view i).list = [] → l = [])) (ho : ∀ j, j ≠ i → t.view j = s.view j) : MovesOne i s (t.retire i) := by
  obtain ⟨l, hv, hl⟩ := hv
  have stays : ∀ l', (l = [] → l' = []) → StreamStays (s.view i) { s.view i with list := l' } := fun l' h =>
    ⟨.refl _, rfl, rfl, rfl, fun _ h => h, .inr ⟨h ∘ hl, id, id, fun _ h => h⟩, id⟩
  have hr : (t.retireHeads i).view i = { s.view i with list := l.dropWhile SendEntry.finished } := by
    rw [State.retireHeads_view_self, State.list_of_view hv, hv]
  unfold State.retire
  refine .ite (fun _ => ⟨?_, ho⟩) fun _ => ⟨?_, fun j hj => ?_⟩
  · rw [hv]
    exact .stays (stays l id)
  · unfold State.endDrainIfEmpty
    split
    · next hd =>
      have hs : (s.view i).record.state = .draining := by
        rw [← hd.1, State.stream_of_view hr]
      exact .endDrain hr ⟨⟨id, id⟩, rfl, id⟩ hs rfl ((State.list_of_view hr).symm.trans hd.2)
    · rw [hr]
      exact .stays (stays _ fun h => by rw [h, List.dropWhile_nil])
  · rw [State.endDrainIfEmpty_view_ne _ _ hj, State.retireHeads_view_ne _ _ hj, ho j hj]

theorem State.setEntry_relist (s : State) (i : StreamId) (m : Msn) (e : SendEntry) :
    ∃ l, (s.setEntry i m e).view i = { s.view i with list := l } ∧ ((s.view i).list = [] → l = []) := by
  refine ⟨_, s.setList_view_self i _, fun h => ?_⟩
  have h : (s.txs i).list = [] := h
  rw [h, List.set_nil]

theorem MovesOne.applyOutcome (i : StreamId) (g : Gen) (m : Msn) (x : EntryState) (s : State) :
    MovesOne i s (s.applyOutcome i g m x) := by
  unfold State.applyOutcome
  split
  · exact .refl i s
  · next e _ =>
    refine .ite (fun _ => .refl i s) fun _ => retire (State.setEntry_relist (s.freeSlotOf i e.msn) i m _)
      fun j hj => State.setTxs_view_ne _ i _ hj

/-- A fault report on a stream whose list the event may have touched (R19 to R21). -/
theorem MovesOne.reportFault {i : StreamId} {s t : State} (f : FaultReport) (hv : ∃ l, t.view i = { s.view i with list := l } ∧
    ((s.view i).list = [] → l = [])) (ho : ∀ j, j ≠ i → t.view j = s.view j) : MovesOne i s (t.reportFault i f) := by
  obtain ⟨l, hv, hl⟩ := hv
  have hs : t.stream i = s.stream i := State.stream_of_view hv
  have hff := State.flush_view_self (t.failList i f.failure) i f.reason
  rw [State.failList_view_self, hv] at hff
  unfold State.reportFault
  split
  · next h =>
    rw [hs] at h
    refine ⟨?_, fun j hj => ?_⟩
    · rw [State.recordEvent, State.setStream_view_self, State.setState, State.setStream_view_self, hff]
      simp only [State.setStream_stream_self, State.stream_of_view hff]
      exact .faulted ⟨⟨id, id⟩, rfl, id⟩ h rfl rfl rfl
    · rw [State.recordEvent_view_ne _ _ _ _ hj, State.setState, State.setStream_view_ne _ _ _ hj,
        State.flush_view_ne _ _ _ hj, State.failList_view_ne _ _ _ hj, ho j hj]
  · next h =>
    rw [hs] at h
    refine ⟨?_, fun j hj => ?_⟩
    · have hb := State.releaseBuffers_view_self ((t.failList i f.failure).flush i f.reason) i
      rw [hff] at hb
      exact .enterReleasing_calm hb ⟨⟨id, id⟩, rfl, id⟩ (.inr (.inl h)) (.inl rfl) rfl
        (StreamRecord.closesLawful_of_draining h rfl rfl)
    · rw [State.enterReleasing_view_ne _ _ _ hj, State.releaseBuffers_view_ne _ _ hj, State.flush_view_ne _ _ _ hj,
        State.failList_view_ne _ _ _ hj, ho j hj]
  · refine ⟨?_, ho⟩
    rw [hv]
    exact .stays ⟨.refl _, rfl, rfl, rfl, fun _ h => h, .inr ⟨hl, id, id, fun _ h => h⟩, id⟩

theorem State.view_relist_self (s : State) (i : StreamId) :
    ∃ l, s.view i = { s.view i with list := l } ∧ ((s.view i).list = [] → l = []) := ⟨_, rfl, id⟩

theorem MovesOne.applyNotOpen (i : StreamId) (g : Gen) (m : Msn) (s : State) : MovesOne i s (s.applyNotOpen i g m) :=
  .ite (fun _ => reportFault _ (s.view_relist_self i) fun _ _ => rfl) fun _ => .refl i s

theorem StreamsMove.ackExpiry (i : StreamId) (m : Msn) (s : State) : StreamsMove s (s.ackExpiry i m) := by
  refine .ite (fun _ => .refl s) fun _ => ?_
  split
  · exact .refl s
  · next e _ =>
    refine .ite (fun _ => .ite (fun _ => ?_) fun _ => ?_) fun _ => .refl s
    · exact (MovesOne.reportFault _ (s.setEntry_relist i m _) fun j hj => State.setTxs_view_ne _ i _ hj).streamsMove
    · have count (u : State) (n : BitVec 16) : Routine u (u.setTxs i { u.txs i with retransmissions := n }) := .setTxs rfl
      exact ((Routine.setEntry s i m _).trans (count _ _)).streamsMove

/-- A SYNC_ACK of the proposed generation opens the stream (R7). -/
theorem MovesOne.syncAckArrives (i : StreamId) (g : Gen) (s : State) : MovesOne i s (s.syncAckArrives i g) := by
  refine .ite (fun h => ⟨?_, fun j hj => ?_⟩) fun _ => .refl i s
  · rw [State.finishOpen_view_self, State.setStream_view_self, State.setStream_stream_self]
    exact .agreed ⟨id, id⟩ h.1 rfl rfl rfl rfl
  · rw [State.finishOpen_view_ne _ _ _ hj, State.setStream_view_ne _ _ _ hj]

theorem Routine.movesOne {i : StreamId} {s t : State} (h : Routine s t) (ho : ∀ j, j ≠ i → t.view j = s.view j) :
    MovesOne i s t := ⟨.stays (h.streams i), ho⟩

theorem MovesOne.sendSync {i : StreamId} {s : State} (h : (s.stream i).state = .opening) : MovesOne i s (s.sendSync i) :=
  (Routine.sendSync h).movesOne fun _ hj => s.sendSync_view_ne i hj

/-- Role B adopts the partner's generation (R8). -/
theorem MovesOne.adopt {i : StreamId} {s : State} (g : Gen) (h : (s.stream i).state = .opening) :
    MovesOne i s (s.adopt i g) := by
  refine ⟨?_, fun j hj => ?_⟩
  · rw [State.adopt, State.finishOpen_view_self]
    simp only [State.setStream_produceNotice, State.setStream_twice, State.produceNotice_view, State.setStream_view_self,
      State.produceNotice_stream, State.setStream_stream_self]
    exact .agreed ⟨fun _ => rfl, id⟩ h rfl rfl rfl rfl
  · rw [State.adopt, State.finishOpen_view_ne _ _ _ hj, State.setStream_view_ne _ _ _ hj, State.produceNotice_view,
      State.setStream_view_ne _ _ _ hj]

/-- A record that is set, announced by a notice and marked with an event. -/
theorem State.setAnnounced_view_self (s : State) (i : StreamId) (r : StreamRecord) (n : Notice) (k : EventKind) (g : Gen) :
    (((s.setStream i r).produceNotice n).recordEvent i k g).view i = { s.view i with record := r.withEvent k g } := by
  rw [recordEvent, setStream_view_self, produceNotice_view, setStream_view_self, produceNotice_stream,
    setStream_stream_self]
  rfl

theorem State.setAnnounced_view_ne (s : State) (i : StreamId) (r : StreamRecord) (n : Notice) (k : EventKind) (g : Gen)
    {j : StreamId} (h : j ≠ i) : (((s.setStream i r).produceNotice n).recordEvent i k g).view j = s.view j := by
  rw [recordEvent_view_ne _ _ _ _ h, produceNotice_view, setStream_view_ne _ _ _ h]

/-- A resync keeps an OPEN stream OPEN and ends a drain (R10). -/
theorem MovesOne.resync {i : StreamId} {s : State} (g : Gen)
    (h : (s.stream i).state = .opened ∨ (s.stream i).state = .draining) : MovesOne i s (s.resync i g) := by
  have hff := State.flush_view_self (s.failList i .peerResync) i .streamResync
  rw [State.failList_view_self] at hff
  have hq := State.resetSequences_view_self ((s.failList i .peerResync).flush i .streamResync) i
  rw [hff] at hq
  have hother : ∀ j, j ≠ i → (((s.failList i .peerResync).flush i .streamResync).resetSequences i).view j = s.view j :=
    fun j hj => by
      rw [State.resetSequences_view_ne _ _ hj, State.flush_view_ne _ _ _ hj, State.failList_view_ne _ _ _ hj]
  unfold State.resync
  dsimp only
  generalize (((s.failList i .peerResync).flush i .streamResync).resetSequences i) = u at hq hother
  have hp := u.setAnnounced_view_self i
    { u.stream i with deferralNote := none, history := [], gen := g, lastGen := g } (.syncAck i g) .resynced g
  have ho : ∀ j, j ≠ i → _ := fun j hj => (u.setAnnounced_view_ne i
    { u.stream i with deferralNote := none, history := [], gen := g, lastGen := g } (.syncAck i g) .resynced g hj).trans
      (hother j hj)
  rw [hq, State.stream_of_view hq] at hp
  rw [State.stream_of_view hq] at ho ⊢
  generalize State.recordEvent i .resynced g _ = p at hp ho ⊢
  have hst : (p.stream i).state = (s.stream i).state := by rw [State.stream_of_view hp]; rfl
  unfold State.endDrainIfEmpty
  refine .ite (fun hd => ⟨?_, fun j hj => ?_⟩) fun _ => ⟨?_, ho⟩
  · exact .endDrain hp ⟨⟨fun _ => rfl, fun _ => Nat.zero_le _⟩, rfl, id⟩ (hst.symm.trans hd.1) rfl rfl
  · rw [State.endDrain_view_ne _ _ hj, ho j hj]
  · rw [hp]
    refine .stays ⟨⟨fun _ => rfl, fun _ => Nat.zero_le _⟩, rfl, rfl, rfl, fun _ h => h, .inl ?_, fun _ => ?_⟩
    all_goals exact .inr (h.imp id .inl)

theorem MovesOne.syncArrives (i : StreamId) (g : Gen) (s : State) : MovesOne i s (s.syncArrives i g) := by
  have answered : MovesOne i s (s.produceNotice (.syncAck i g)) := .of_views fun j => by simp
  unfold State.syncArrives
  split
  · next h =>
    refine .ite (fun _ => answered) fun _ => ?_
    split
    · exact adopt g h
    · exact sendSync h
  · next h => exact .ite (fun _ => answered) fun _ => resync g (.inl h)
  · next h => exact .ite (fun _ => answered) fun _ => resync g (.inr h)
  · exact .refl i s
  · exact .refl i s
  · exact .refl i s

/-! ### Grants -/

theorem StreamsMove.linkEventGrant (s : State) : StreamsMove s (if s.linkGrantEnabled then s.grantLinkEvent else s) :=
  .ite (fun _ => .of_views fun i => s.postRecord_view i _) fun _ => .refl s

theorem StreamsMove.streamEventGrant (s : State) : StreamsMove s s.streamEventGrant := by
  refine .ite (fun _ => ?_) fun _ => .refl s
  split
  · exact .refl s
  · next i _ =>
    split
    · exact .refl s
    · next e _ =>
      have hs : (s.postRecord (.streamEvent i e)).stream i = s.stream i :=
        State.stream_of_view (s.postRecord_view i (.streamEvent i e))
      refine (MovesOne.mk (i := i) ?_ fun j hj => ?_).streamsMove
      · rw [State.grantStreamEvent, State.setStream_view_self, State.postRecord_view, hs]
        exact .stays (RecordStays.withEvent _ _).view
      · rw [State.grantStreamEvent, State.setStream_view_ne _ _ _ hj, State.postRecord_view]

/-- A granted release list; the last record of a RELEASING stream closes it (R18, R64). -/
theorem MovesOne.grantRelease {i : StreamId} {s : State} {e : ReleaseEntry} {rest : List ReleaseEntry}
    (hl : (s.rxs i).releaseList = e :: rest) : MovesOne i s (s.grantRelease i e rest) := by
  have hself : ∀ (u : State), u = s.withGranted (e.completion i) →
      (State.setRxs u i { s.rxs i with releaseList := rest }).view i =
        { s.view i with rx := { s.rxs i with releaseList := rest } } := by
    rintro u rfl
    rw [State.setRxs_view_self]
    rfl
  have hother : ∀ j, j ≠ i → ((s.withGranted (e.completion i)).setRxs i { s.rxs i with releaseList := rest }).view j =
      s.view j := fun j hj => by
    rw [State.setRxs_view_ne _ _ _ hj]
    rfl
  rw [State.grantRelease_eq]
  refine .ite (fun h => ⟨?_, fun j hj => ?_⟩) fun h => ⟨?_, hother⟩
  · rw [State.withPosted_view, State.setStream_view_self]
    refine .closed ⟨⟨id, id⟩, rfl, id⟩ h.1 rfl rfl id ?_ ?_
    · exact fun hb => (congrArg RxStream.bufferList (State.rxs_of_view (hself _ rfl))).trans hb
    · exact (congrArg RxStream.releaseList (State.rxs_of_view (hself _ rfl))).trans h.2
  · rw [State.withPosted_view, State.setStream_view_ne _ _ _ hj]
    exact hother j hj
  · refine (hself _ rfl).symm ▸ .stays ⟨.refl _, rfl, rfl, rfl, fun _ h => h, .inr ⟨id, id, fun hn => ?_, fun hr _ hn => ?_⟩, id⟩
    · have hn : (s.rxs i).releaseList = [] := hn
      rw [hl] at hn
      cases hn
    · exact h ⟨hr, hn⟩

theorem StreamsMove.releaseListGrant (s : State) : StreamsMove s s.releaseListGrant := by
  refine .ite (fun _ => ?_) fun _ => .refl s
  split
  · exact .refl s
  · next i _ =>
    split
    · exact .refl s
    · next e rest hl => exact (MovesOne.grantRelease hl).streamsMove

/-! ### The partner restart -/

theorem MovesOne.restartStream (i : StreamId) (s : State) : MovesOne i s (s.restartStream i) := by
  unfold State.restartStream
  split
  · exact reportFault _ (s.view_relist_self i) fun _ _ => rfl
  · exact reportFault _ (s.view_relist_self i) fun _ _ => rfl
  · exact (Routine.recordEvent i _ _ s).movesOne fun j hj => s.recordEvent_view_ne i _ _ hj
  · next h => exact sendSync h
  · exact .refl i s
  · exact .refl i s

/-- Events on different streams, one after another, move each stream once. -/
theorem foldl_moves {f : State → StreamId → State} (hf : ∀ s i, MovesOne i s (f s i)) {l : List StreamId} (hn : l.Nodup)
    (s : State) : StreamsMove s (l.foldl f s) ∧ ∀ j, j ∉ l → (l.foldl f s).view j = s.view j := by
  induction l generalizing s with
  | nil => exact ⟨.refl s, fun _ _ => rfl⟩
  | cons i l ih =>
    obtain ⟨hi, hl⟩ := List.nodup_cons.mp hn
    obtain ⟨hmove, hsame⟩ := ih hl (f s i)
    refine ⟨fun j => ?_, fun j hj => ?_⟩
    · by_cases hji : j = i
      · rw [List.foldl_cons, hsame j (hji ▸ hi), hji]
        exact (hf s i).self
      · rw [List.foldl_cons, ← (hf s i).other j hji]
        exact hmove j
    · obtain ⟨hji, hjl⟩ := not_or.mp (List.mem_cons.not.mp hj)
      rw [List.foldl_cons, hsame j hjl, (hf s i).other j hji]

theorem StreamsMove.partnerRestart (s : State) : StreamsMove s s.partnerRestart :=
  (foldl_moves (fun s i => MovesOne.restartStream i s) (List.nodup_finRange 64) s).1

/-- An effect shows of the transmit list only whether it is empty. -/
theorem StreamEffect.relist {u v w : StreamView} (h : StreamEffect u v) (hw : w = { v with list := w.list })
    (hl : v.list = [] → w.list = []) : StreamEffect u w := by
  rw [hw]
  cases h with
  | stays h =>
    exact .stays ⟨h.kept, h.state, h.openPending, h.closePending, h.timer,
      h.lists.imp_right fun k => ⟨hl ∘ k.list, k.buffers, k.releases, k.waiting⟩, h.live⟩
  | proposed kept src dst op cp => exact .proposed kept src dst op cp
  | agreed kept src dst op cp timer => exact .agreed kept src dst op cp timer
  | drains tag calm src dst cp => exact .drains tag calm src dst cp
  | faulted calm src dst cp list => exact .faulted calm src dst cp (hl list)
  | ended kept src op timer list buffers dst =>
    exact .ended kept src op timer (list.imp hl fun ⟨hs, h⟩ => ⟨hs, hl ∘ h⟩) buffers dst
  | closed calm src dst cp list buffers releases => exact .closed calm src dst cp (hl ∘ list) buffers releases

theorem StreamsMove.transmitLinkUp {s t : State} (h : StreamsMove s t) : StreamsMove s t.transmitLinkUp := by
  unfold State.transmitLinkUp
  refine .ite (fun _ => h) fun _ i => (h i).relist rfl fun hl => ?_
  have hl : (t.txs i).list = [] := hl
  simp only [State.view, State.txs, Fin.getElem_fin, Vector.getElem_map] at hl ⊢
  rw [hl, List.map_nil]

/-- The state in which a partner restart is told to the streams: the epoch and the link record are those of the
restarted link, the other lanes are back in SEEKING and the notice queue is empty (R122, steps 1 to 4). -/
def State.restartBegun (l : LaneId) (epoch : Byte) (s : State) : State :=
  let s1 : State := { s with lm.partnerEpoch := epoch }
  { (s1.setLane l { s1.lane l with state := .up }).seekOthers l with lm.noticeQueue := [], lm.linkState := .up }

theorem State.restartOn_eq (l : LaneId) (epoch : Byte) (s : State) :
    s.restartOn l epoch = (if s.lm.linkState = .down then (s.restartBegun l epoch).partnerRestart.transmitLinkUp
      else (s.restartBegun l epoch).partnerRestart).recordLinkChange := by
  rw [restartOn]
  simp only [decide_eq_true_eq]
  rfl

section
variable (l : LaneId) (epoch : Byte) (s : State)
@[simp] theorem State.restartBegun_hau : (s.restartBegun l epoch).hau = s.hau := rfl
@[simp] theorem State.restartBegun_rp : (s.restartBegun l epoch).rp = s.rp := rfl
@[simp] theorem State.restartBegun_st : (s.restartBegun l epoch).st = s.st := rfl
@[simp] theorem State.restartBegun_te : (s.restartBegun l epoch).te = s.te := rfl
@[simp] theorem State.restartBegun_re : (s.restartBegun l epoch).re = s.re := rfl
@[simp] theorem State.restartBegun_ft : (s.restartBegun l epoch).ft = s.ft := rfl
@[simp] theorem State.restartBegun_cp : (s.restartBegun l epoch).cp = s.cp := rfl
end

theorem StreamsMove.restartOn (l : LaneId) (epoch : Byte) (s : State) : StreamsMove s (s.restartOn l epoch) := by
  have hb (i : StreamId) : (s.restartBegun l epoch).view i = s.view i :=
    State.view_congr (by simp) (by simp) (by simp) i
  have h : StreamsMove s (s.restartBegun l epoch).partnerRestart := fun i => by
    rw [← hb i]
    exact partnerRestart _ i
  have hc (u : State) : ∀ i, u.recordLinkChange.view i = u.view i := fun _ => rfl
  intro i
  rw [State.restartOn_eq, hc]
  exact StreamsMove.ite (fun _ => h.transmitLinkUp) (fun _ => h) i

end Sys2Proof.Machine

namespace Sys2Proof.Machine

set_option Elab.async false -- one thread for each lemma would need more memory than the check allows

/-! ### Every command is one of these events -/

/-- What a command other than a reset can do: a routine event, or one of those that move a reservation, a completion
slot or the state of a stream. -/
inductive Event (s : State) : State → Prop
  | routine {t : State} (h : Routine s t) : Event s t
  | control (enable intEnable : Bool) : Event s (s.writeControl enable intEnable)
  | cqRing (v : BitVec 64) : Event s (s.writeCqRing v)
  | cqHead (v : BitVec 32) : Event s (s.writeCqHead v)
  | record (r : RequestRecord) : Event s (s.completeRecordRead r)
  | reservation (h : s.reservationEnabled = true) : Event s s.grantReservation
  | restart (l : LaneId) (r : Lane) (epoch : Byte) : Event s ((s.setLane l r).restartOn l epoch)
  | sync (l : LaneId) (r : Lane) (i : StreamId) (g : Gen) : Event s ((s.setLane l r).syncArrives i g)
  | syncAck (l : LaneId) (r : Lane) (i : StreamId) (g : Gen) : Event s ((s.setLane l r).syncAckArrives i g)
  | outcome (l : LaneId) (r : Lane) (i : StreamId) (g : Gen) (m : Msn) (x : EntryState) :
      Event s ((s.setLane l r).applyOutcome i g m x)
  | notOpen (l : LaneId) (r : Lane) (i : StreamId) (g : Gen) (m : Msn) : Event s ((s.setLane l r).applyNotOpen i g m)
  | ackExpiry (i : StreamId) (m : Msn) : Event s (s.ackExpiry i m)
  | linkEvent : Event s (if s.linkGrantEnabled then s.grantLinkEvent else s)
  | streamEvent : Event s s.streamEventGrant
  | releaseList : Event s s.releaseListGrant

theorem Event.refl (s : State) : Event s s := .routine (.refl s)

/-- A good unit moves its lane, or is passed on by an UP lane (R111, R113 to R115). -/
theorem Event.hearUnit {s : State} {act : State → State} {l : LaneId} (h : ∀ r, Event s (act (s.setLane l r))) :
    Event s (s.hearUnit l act) := by
  unfold State.hearUnit
  split
  · exact .refl s
  · split
    · exact .refl s
    · exact .routine (.setLane l _ s)
    · exact .routine (.seekLane l s)
    · exact h _

/-- `Event.hearUnit` for what moves nothing notable. -/
theorem Event.hearUnit_routine {s : State} {act : State → State} {l : LaneId} (h : ∀ u, Routine u (act u)) :
    Event s (s.hearUnit l act) :=
  .hearUnit fun r => .routine ((Routine.setLane l r s).trans (h _))

theorem Routine.seekingAlign (l : LaneId) (role : Role) (s : State) : Routine s (s.seekingAlign l role) :=
  .ite (fun _ => .of_blocks) fun _ => .ite (fun _ => .of_blocks) fun _ => .of_blocks

/-- A good ALIGN on an ALIGNED lane is a partner restart, or moves lanes and the link alone (R115, R121). -/
theorem State.alignedAlign_cases (l : LaneId) (role : Role) (epoch : Byte) (ready : Bool) (s : State) :
    Routine s (s.alignedAlign l role epoch ready) ∨ s.alignedAlign l role epoch ready = s.restartOn l epoch := by
  unfold alignedAlign
  split
  · exact .inl ((Routine.of_blocks (t := { s with lm.roleClash := true })).trans (.seekLane l _))
  · split
    · unfold laneUp
      split
      · exact .inl ((Routine.of_blocks (t := { s with lm.partnerEpoch := epoch })).trans
          ((Routine.setLane l _ _).trans (.judgeLink _)))
      · exact .inr rfl
    · exact .inl (.refl s)

theorem Event.hearAlign (l : LaneId) (role : Role) (epoch : Byte) (ready : Bool) (s : State) :
    Event s (s.hearAlign l role epoch ready) := by
  have heard : Routine s (s.setLane l (s.lane l).hearGood) := .setLane l _ s
  unfold State.hearAlign
  split
  · exact .refl s
  · dsimp only
    split
    · exact .refl s
    · exact .routine (heard.trans (.seekingAlign l role _))
    · rcases State.alignedAlign_cases l role epoch ready (s.setLane l (s.lane l).hearGood) with h | h
      · exact .routine (heard.trans h)
      · rw [h]
        exact .restart l _ epoch
    · split
      · exact .routine heard
      · exact .routine (heard.trans (.seekLane l _))

theorem Event.writeRqRing (v : BitVec 64) (s : State) : Event s (s.writeRqRing v) := by
  refine .routine (.ite (fun _ => .of_blocks (taking := ?_)) fun _ => .refl s)
  cases s.rp.taking <;> simp

theorem Event.writeRegister {offset size : Nat} {v : BitVec 64} (h : v.getLsbD 1 = true → ¬(offset = 0x04 ∧ size = 4))
    (s : State) : Event s (s.writeRegister offset size v) := by
  have hs : Event s s := .refl s
  have rq := fun v => Event.writeRqRing v s
  have tail : Routine s (s.writeRqTail (v.setWidth 32)) := .of_blocks
  unfold State.writeRegister
  split
  · next hsize =>
    split
    · next ho =>
      rw [State.writeControlWord, if_neg fun hb => h hb ⟨ho, hsize⟩]
      exact .control _ _
    · split <;> [exact rq _; skip]
      split <;> [exact rq _; skip]
      split <;> [exact .cqRing _; skip]
      split <;> [exact .cqRing _; skip]
      split <;> [exact .routine tail; skip]
      split <;> [exact .cqHead _; exact hs]
  · split <;> [skip; exact hs]
    split <;> [exact rq _; skip]
    split <;> [exact .cqRing _; exact hs]

theorem Event.receiveRecordData (data : List Byte) (s : State) : Event s (s.receiveRecordData data) := by
  unfold State.receiveRecordData
  split
  · exact .refl s
  · split
    · exact .record _
    · exact .routine .of_blocks

/-- Every command but a reset is one of the events. -/
theorem exec_event {c : Instr} (s : State) (hp : c ≠ .portReset) (hr : c ≠ .softReset)
    (hw : ∀ v, v.getLsbD 1 = true → c ≠ .registerWrite 0x04 4 v) : ∃ t, exec c s = .next t ∧ Event s t := by
  cases c with
  | portReset => exact absurd rfl hp
  | softReset => exact absurd rfl hr
  | enableSet ie => exact ⟨_, rfl, .control _ _⟩
  | enableClear ie => exact ⟨_, rfl, .control _ _⟩
  | intEnableWrite e ie => exact ⟨_, rfl, .control _ _⟩
  | rqRingWrite v => exact ⟨_, rfl, .writeRqRing v s⟩
  | cqRingWrite v => exact ⟨_, rfl, .cqRing v⟩
  | rqTailWrite v => exact ⟨_, rfl, .routine .of_blocks⟩
  | cqHeadWrite v => exact ⟨_, rfl, .cqHead v⟩
  | registerWrite offset size v =>
    exact ⟨_, rfl, .writeRegister (fun hb ⟨ho, hs⟩ => hw v hb (by rw [ho, hs])) s⟩
  | configure => exact ⟨_, rfl, .record _⟩
  | openStream => exact ⟨_, rfl, .record _⟩
  | closeStream => exact ⟨_, rfl, .record _⟩
  | send => exact ⟨_, rfl, .record _⟩
  | post => exact ⟨_, rfl, .record _⟩
  | fence => exact ⟨_, rfl, .record _⟩
  | queryStream => exact ⟨_, rfl, .record _⟩
  | queryLink => exact ⟨_, rfl, .record _⟩
  | reservationGrant =>
    refine ⟨_, rfl, ?_⟩
    split
    · next h => exact .reservation h
    · exact .refl s
  | recordReadIssue =>
    refine ⟨_, rfl, .routine (.ite (fun h => .issueRecordRead ?_) fun _ => .refl s)⟩
    simp only [State.recordReadEnabled, Bool.and_eq_true, decide_eq_true_eq] at h
    simp [h.1.1]
  | recordReadComplete data => exact ⟨_, rfl, .receiveRecordData data s⟩
  | sliceReadIssue => exact ⟨_, rfl, .routine (.sliceReadIssue s)⟩
  | sliceReadReturn id data => exact ⟨_, rfl, .routine (.receiveSliceData id data s)⟩
  | readError id => exact ⟨_, rfl, .routine (.readErrors id s)⟩
  | readTimeout id => exact ⟨_, rfl, .routine (.readTimesOut id s)⟩
  | forgottenReadReturn id => exact ⟨_, rfl, .routine .of_blocks⟩
  | forgottenReadExpiry id => exact ⟨_, rfl, .routine .of_blocks⟩
  | slicerSlotFill => exact ⟨_, rfl, .routine (.slotFill s)⟩
  | unitPlacement => exact ⟨_, rfl, .routine (.placement s)⟩
  | laneUnitTransmit l => exact ⟨_, rfl, .routine (.transmit l s)⟩
  | alignReceived l role epoch ready =>
    refine ⟨_, rfl, ?_⟩
    split
    · exact .routine (.hearBad l s)
    · exact .hearAlign l role epoch ready s
  | badUnitReceived l => exact ⟨_, rfl, .routine (.hearBad l s)⟩
  | idleReceived l => exact ⟨_, rfl, .hearUnit_routine .refl⟩
  | silenceTimerExpiry l => exact ⟨_, rfl, .routine (.silence l s)⟩
  | sliceReceived l i g m a x last p => exact ⟨_, rfl, .hearUnit_routine (.sliceArrives _)⟩
  | syncReceived l i g => exact ⟨_, rfl, .hearUnit fun r => .sync l r i g⟩
  | syncAckReceived l i g => exact ⟨_, rfl, .hearUnit fun r => .syncAck l r i g⟩
  | syncTimerExpiry i => exact ⟨_, rfl, .routine (.syncExpiry i s)⟩
  | ackReceived l i g m => exact ⟨_, rfl, .hearUnit fun r => .outcome l r i g m _⟩
  | deferReceived l i g m a reason => exact ⟨_, rfl, .hearUnit_routine (.applyDefer i g m a)⟩
  | rejectTooLongReceived l i g m => exact ⟨_, rfl, .hearUnit fun r => .outcome l r i g m _⟩
  | rejectNotOpenReceived l i g m => exact ⟨_, rfl, .hearUnit fun r => .notOpen l r i g m⟩
  | ackTimerExpiry i m => exact ⟨_, rfl, .ackExpiry i m⟩
  | holdoffTimerExpiry i m => exact ⟨_, rfl, .routine (.holdoffExpiry i m s)⟩
  | dataWriteDeparts => exact ⟨_, rfl, .routine (.dataWriteDeparts s)⟩
  | recordWriteDeparts => exact ⟨_, rfl, .routine (.recordWriteDeparts s)⟩
  | backlogMove => exact ⟨_, rfl, .routine (.backlogMove s)⟩
  | interruptMessage msi => exact ⟨_, rfl, .routine (.interruptMessage msi s)⟩
  | linkEventGrant => exact ⟨_, rfl, .linkEvent⟩
  | streamEventGrant => exact ⟨_, rfl, .streamEvent⟩
  | releaseListGrant => exact ⟨_, rfl, .releaseList⟩

end Sys2Proof.Machine

namespace Sys2Proof.Machine

set_option Elab.async false -- one thread for each lemma would need more memory than the check allows

/-! ### Every event moves the streams lawfully -/

theorem StreamsMove.of_view_eq {s u t : State} (h : StreamsMove s u) (hv : ∀ i, t.view i = u.view i) : StreamsMove s t :=
  fun i => by
    rw [hv i]
    exact h i

/-- A start that shows the same streams. -/
theorem StreamsMove.from_view_eq {s u t : State} (h : StreamsMove u t) (hv : ∀ i, u.view i = s.view i) : StreamsMove s t :=
  fun i => by
    rw [← hv i]
    exact h i

@[simp] theorem State.releaseReservation_view (s : State) (i : StreamId) : s.releaseReservation.view i = s.view i := rfl

theorem Routine.reconfigureLanes (mask : BitVec 4) (role : Role) (epoch : Byte) (s : State) :
    Routine s (s.reconfigureLanes mask role epoch) := by
  unfold State.reconfigureLanes
  exact .trans (.of_blocks) (judgeLink _)

theorem StreamsMove.takeConfigure (tag : Tag) (c : ConfigRecord) (s : State) : StreamsMove s (s.takeConfigure tag c) := by
  unfold State.takeConfigure State.postDoneNoStream
  refine .ite (fun _ => ?_) fun _ => .of_views fun i => by simp
  exact (Routine.reconfigureLanes c.laneMask c.role c.localEpoch s).streamsMove.of_view_eq fun i => by
    rw [State.postReserved_view]
    rfl

theorem State.sendRefusal_none {s : State} {i : StreamId} (h : s.sendRefusal i = none) :
    (s.stream i).state = .opening ∨ (s.stream i).state = .opened := by
  by_contra hn
  simp [sendRefusal, not_or.mp hn] at h

theorem State.postRefusal_none {s : State} {i : StreamId} (h : s.postRefusal i = none) : (s.view i).Live := by
  by_contra hn
  obtain ⟨h1, h2, h3, _⟩ := (by simpa [StreamView.Live, view] using hn :
    (s.stream i).state ≠ .opening ∧ (s.stream i).state ≠ .opened ∧ (s.stream i).state ≠ .draining ∧ _)
  simp [postRefusal, h1, h2, h3] at h

theorem StreamsMove.takeSend (i : StreamId) (tag : Tag) (a : HostAddr) (n : Nat) (s : State) :
    StreamsMove s (s.takeSend i tag a n) := by
  unfold State.takeSend
  split
  · exact .of_views fun j => by simp
  · next h =>
    have hl : (s.view i).Live := (State.sendRefusal_none h).imp id .inl
    refine (MovesOne.mk (i := i) ?_ fun j hj => s.setTxs_view_ne i _ hj).streamsMove
    rw [State.setTxs_view_self]
    exact .stays ⟨.refl _, rfl, rfl, rfl, fun _ h => h, .inl hl, id⟩

theorem StreamsMove.takePost (i : StreamId) (tag : Tag) (a : HostAddr) (n : Nat) (s : State) :
    StreamsMove s (s.takePost i tag a n) := by
  unfold State.takePost
  split
  · exact .of_views fun j => by simp
  · next h => exact (Routine.setRxs_live (State.postRefusal_none h) _).streamsMove.of_view_eq fun j => State.postDone_view ..

theorem StreamsMove.takeFence (tag : Tag) (scope : FenceScope) (s : State) : StreamsMove s (s.takeFence tag scope) := by
  unfold State.takeFence State.postFence
  exact .ite (fun _ => .of_views fun j => by simp) fun _ => .ite (fun _ => .of_views fun j => by simp) fun _ =>
    .of_views fun _ => rfl

theorem Routine.clearStreamCounters (i : StreamId) (s : State) : Routine s (s.clearStreamCounters i) := by
  have tx (u : State) (a b c : BitVec 16) : Routine u (u.setTxs i { u.txs i with
      slicesSent := a, retransmissions := b, defersReceived := c }) := .setTxs rfl
  have rx (u : State) (a b : BitVec 16) : Routine u (u.setRxs i { u.rxs i with defersSent := a, straysDropped := b }) :=
    .setRxs rfl rfl
  exact (tx _ _ _ _).trans (rx _ _ _)

theorem StreamsMove.takeQueryStream (i : StreamId) (tag : Tag) (clear : Bool) (s : State) :
    StreamsMove s (s.takeQueryStream i tag clear) := by
  have posted : ∀ j, (s.postDone .queryStream i tag .success (.streamDone (s.streamReport i))).view j = s.view j :=
    fun j => by simp
  exact .ite (fun _ => (Routine.clearStreamCounters i _).streamsMove.from_view_eq posted) fun _ => .of_views posted

theorem StreamsMove.takeQueryLink (tag : Tag) (clear : Bool) (s : State) : StreamsMove s (s.takeQueryLink tag clear) := by
  have posted : ∀ j, (s.postDoneNoStream .queryLink tag .success (.linkDone s.linkReport)).view j = s.view j :=
    fun j => s.postReserved_view j _
  exact .ite (fun _ => .of_views fun j => posted j) fun _ => .of_views posted

theorem StreamsMove.dispatch (tag : Tag) (r : Request) (s : State) : StreamsMove s (s.dispatch tag r) := by
  cases r with
  | configure mask role epoch ack retry hold sync => exact takeConfigure tag _ s
  | openStream i => exact (MovesOne.takeOpen i tag s).streamsMove
  | closeStream i mode => exact (MovesOne.takeClose i tag mode s).streamsMove
  | send i a n => exact takeSend i tag a n s
  | post i a n => exact takePost i tag a n s
  | fence scope => exact takeFence tag scope s
  | queryStream i clear => exact takeQueryStream i tag clear s
  | queryLink clear => exact takeQueryLink tag clear s

theorem StreamsMove.processRecord (r : RequestRecord) (s : State) : StreamsMove s (s.processRecord r) := by
  have refused (x : Status) : StreamsMove s (s.refuseRecord r x) := .of_views fun i => s.postReserved_view i _
  unfold State.processRecord
  split
  · exact refused _
  · exact .ite (fun _ => dispatch _ _ s) fun _ => refused _

theorem StreamsMove.completeRecordRead (r : RequestRecord) (s : State) : StreamsMove s (s.completeRecordRead r) := by
  unfold State.completeRecordRead
  split
  · exact .refl s
  · next q _ =>
    refine StreamsMove.from_view_eq (u := s.dropRead q.id) (.ite (fun _ => .refl _) fun _ => ?_) fun _ => rfl
    split
    · exact (processRecord r _).from_view_eq fun _ => rfl
    · exact .of_views fun _ => rfl
    · exact .refl _

theorem State.judgeInterrupt_view (b : Bool) (s : State) (i : StreamId) : (State.judgeInterrupt b s).view i = s.view i := by
  obtain ⟨o, ho⟩ := judgeInterrupt_eq b s
  rw [ho]
  rfl

theorem State.writeControl_view (e ie : Bool) (s : State) (i : StreamId) : (s.writeControl e ie).view i = s.view i := by
  rw [writeControl, judgeInterrupt_view]
  unfold writeEnable returnHeldReservation
  split
  · rfl
  · split <;> rfl
  · rfl

theorem State.writeCqRing_view (v : BitVec 64) (s : State) (i : StreamId) : (s.writeCqRing v).view i = s.view i := by
  unfold writeCqRing
  split
  · exact judgeInterrupt_view _ _ i
  · rfl

theorem State.writeCqHead_view (v : BitVec 32) (s : State) (i : StreamId) : (s.writeCqHead v).view i = s.view i := by
  unfold writeCqHead
  split
  · exact judgeInterrupt_view _ _ i
  · rfl

theorem State.grantReservation_view (s : State) (i : StreamId) : s.grantReservation.view i = s.view i := by
  unfold grantReservation
  dsimp only
  split <;> rfl

theorem Event.streamsMove {s t : State} (h : Event s t) : StreamsMove s t := by
  have heard {l : LaneId} {r : Lane} {t : State} (h : StreamsMove (s.setLane l r) t) : StreamsMove s t :=
    h.from_view_eq fun _ => rfl
  cases h with
  | routine h => exact h.streamsMove
  | control e ie => exact .of_views fun i => s.writeControl_view e ie i
  | cqRing v => exact .of_views fun i => s.writeCqRing_view v i
  | cqHead v => exact .of_views fun i => s.writeCqHead_view v i
  | record r => exact .completeRecordRead r s
  | reservation => exact .of_views s.grantReservation_view
  | restart l r epoch => exact heard (.restartOn l epoch _)
  | sync l r i g => exact heard (MovesOne.syncArrives i g _).streamsMove
  | syncAck l r i g => exact heard (MovesOne.syncAckArrives i g _).streamsMove
  | outcome l r i g m x => exact heard (MovesOne.applyOutcome i g m x _).streamsMove
  | notOpen l r i g m => exact heard (MovesOne.applyNotOpen i g m _).streamsMove
  | ackExpiry i m => exact .ackExpiry i m s
  | linkEvent => exact .linkEventGrant s
  | streamEvent => exact .streamEventGrant s
  | releaseList => exact .releaseListGrant s

theorem exec_streamsMove {c : Instr} {s t : State} (hp : c ≠ .portReset) (hr : c ≠ .softReset)
    (hw : ∀ v, v.getLsbD 1 = true → c ≠ .registerWrite 0x04 4 v) (hx : exec c s = .next t) : StreamsMove s t := by
  obtain ⟨u, hu, he⟩ := exec_event s hp hr hw
  obtain rfl := Host.Outcome.next.inj (hu.symm.trans hx)
  exact he.streamsMove

/-- Settles O60: one event has a `StreamEffect` on each stream, which moves its state as section 1.10 allows. -/
theorem streamStatesMoveLawfully : Obligations.StreamStatesMoveLawfully :=
  fun _ _ _ hp hr hw hx i => (exec_streamsMove hp hr hw hx i).state_moves

/-- A command is a reset of the part, or one of the events. -/
theorem exec_cases (c : Instr) (s : State) :
    (∃ rq cq, exec c s = .next (s.resetWith rq cq)) ∨ ∃ t, exec c s = .next t ∧ Event s t := by
  by_cases hp : c = .portReset
  · obtain ⟨rq, cq, h, _⟩ := exec_reset (.inl hp) s
    exact .inl ⟨rq, cq, h⟩
  by_cases hr : c = .softReset
  · obtain ⟨rq, cq, h, _⟩ := exec_reset (.inr hr) s
    exact .inl ⟨rq, cq, h⟩
  by_cases hw : ∃ v, v.getLsbD 1 = true ∧ c = .registerWrite 0x04 4 v
  · obtain ⟨v, hv, rfl⟩ := hw
    exact .inl ⟨_, _, congrArg _ (if_pos hv)⟩
  · push Not at hw
    exact .inr (exec_event s hp hr hw)

/-- What a step can do: nothing, a reset, or one of the events, on the state with the rest of the queue. -/
theorem step_cases {s t : State} (h : step s = .next t) :
    t = s ∨ ∃ q : List Instr, (∃ rq cq, t = State.resetWith rq cq { s with pending := q }) ∨ Event { s with pending := q } t := by
  unfold step at h
  split at h
  · exact .inl (Host.Outcome.next.inj h).symm
  · next c q _ =>
    rcases exec_cases c { s with pending := q } with ⟨rq, cq, hx⟩ | ⟨u, hx, he⟩
    · exact .inr ⟨q, .inl ⟨rq, cq, Host.Outcome.next.inj (h.symm.trans hx)⟩⟩
    · obtain rfl := Host.Outcome.next.inj (h.symm.trans hx)
      exact .inr ⟨q, .inr he⟩

theorem State.resetWith_view (rq cq : Ring) (s : State) (i : StreamId) :
    (s.resetWith rq cq).view i = ⟨.reset, [], .reset, []⟩ := by
  have hc : (s.resetWith rq cq).contextsOf i = [] := rfl
  rw [view, resetWith_stream, resetWith_txs, resetWith_rxs, hc]
  rfl

/-- A law of single streams that a reset establishes and every effect keeps is kept by every step. -/
theorem step_keeps_views {P : StreamView → Prop} {s t : State} (hs : ∀ i, P (s.view i)) (h : step s = .next t)
    (hreset : P ⟨.reset, [], .reset, []⟩) (heffect : ∀ i w, StreamEffect (s.view i) w → P w) (i : StreamId) :
    P (t.view i) := by
  rcases step_cases h with rfl | ⟨q, ⟨rq, cq, rfl⟩ | he⟩
  · exact hs i
  · rw [State.resetWith_view]
    exact hreset
  · exact heffect i _ (he.streamsMove i)

/-- Settles O53: a `StreamEffect` keeps the records lawful, and ended streams empty where contexts stand as they must. -/
theorem stepKeepsStreamRecords : Obligations.StepKeepsStreamRecords := by
  intro s t hc he hr hs
  have hstand (i : StreamId) : (s.view i).ContextsStand := fun hn => by
    obtain ⟨c, hcs, rfl⟩ := State.view_contexts_ne_nil.mp hn
    exact (hc.1 c hcs).2.1
  have ended : ∀ i, (t.view i).Ended := step_keeps_views (P := StreamView.Ended) he hs
    ⟨fun _ => ⟨rfl, rfl, rfl⟩, nofun, nofun⟩
    fun i w hw => hw.keeps_ended (hstand i) (he i)
  have lawful : ∀ i, (t.view i).RecordLawful := step_keeps_views (P := StreamView.RecordLawful) hr hs
    ⟨rfl, rfl, fun h => absurd rfl h, Nat.zero_le _⟩
    fun i w hw => hw.keeps_recordLawful (hr i)
  exact ⟨ended, lawful⟩

end Sys2Proof.Machine

namespace Sys2Proof.Machine

set_option Elab.async false -- one thread for each lemma would need more memory than the check allows

/-! ### The account of the reserved completion slots

`Ledger k s` says that the reserved slots are those that requests hold and `k` more, which the event at hand has in hand:
it has taken them from a request and not yet posted into them (R146, R157, R160). An event that keeps the account starts
and ends with none in hand. -/

theorem sum_list_set {l : List Nat} {i : Nat} (h : i < l.length) (x : Nat) : (l.set i x).sum + l[i] = l.sum + x := by
  induction l generalizing i with
  | nil => simp at h
  | cons a l ih =>
    cases i with
    | zero => simp only [List.set_cons_zero, List.sum_cons, List.getElem_cons_zero]; omega
    | succ i =>
      have := ih (i := i) (by simpa using h)
      simp only [List.set_cons_succ, List.sum_cons, List.getElem_cons_succ]
      omega

theorem sum_map_set {α : Type} {n : Nat} (v : Vector α n) (f : α → Nat) (i : Fin n) (x : α) :
    ((v.set i x).toList.map f).sum + f v[i] = (v.toList.map f).sum + f x := by
  have h := sum_list_set (l := v.toList.map f) (i := i) (by simp) (f x)
  simpa [Vector.toList_set, List.map_set] using h

/-- The reservations that a stream record holds: its pending OPEN and its pending CLOSEs (R1). -/
def StreamRecord.requests (r : StreamRecord) : Nat := (if r.openPending.isSome then 1 else 0) + r.closePending.length

/-- Every reserved slot but `k` is held by a request, and with the unconsumed ones they fit the ring. -/
structure Ledger (k : Nat) (s : State) : Prop where
  reserved : s.cp.reserved = s.reservationsHeld + k
  fits : s.cp.unconsumed + s.cp.reserved ≤ s.cqSize

theorem sum_map_congr {α : Type} {n : Nat} {v w : Vector α n} {f : α → Nat} (h : ∀ i : Fin n, f w[i] = f v[i]) :
    (w.toList.map f).sum = (v.toList.map f).sum := by
  congr 1
  refine List.ext_getElem (by simp) fun i h1 h2 => ?_
  simpa using h ⟨i, by simpa using h1⟩

/-- The reservation of the record that is being taken (R137). -/
def TakingState.held (x : TakingState) : Nat := if x = .idle then 0 else 1

theorem State.reservationsHeld_eq (s : State) : s.reservationsHeld = s.rp.taking.held + (s.st.toList.map StreamRecord.requests).sum +
      (s.te.tx.toList.map fun t => t.list.length).sum + s.ft.length := rfl

theorem CompletionPoster.foldl_reserved (ring : Ring) (cs : List Completion) (cp : CompletionPoster) :
    (cs.foldl (CompletionPoster.append ring) cp).reserved = cp.reserved - cs.length := by
  induction cs generalizing cp with
  | nil => rfl
  | cons c cs ih => simp [List.foldl_cons, ih, CompletionPoster.append]; omega

theorem State.withPosted_cp (cs : List Completion) (s : State) :
    (s.withPosted cs).cp = cs.foldl (CompletionPoster.append s.hau.cqRing) s.cp := by
  unfold withPosted
  split
  · next h => simp [h]
  · rfl

theorem State.withPosted_cqRing (cs : List Completion) (s : State) : (s.withPosted cs).hau.cqRing = s.hau.cqRing := by
  unfold withPosted
  split <;> rfl

theorem Routine.recordLinkChange (s : State) : Routine s s.recordLinkChange := .of_blocks

namespace Ledger
variable {k k' : Nat} {s t : State}

theorem of_same (h : Ledger k s) (same : SameAccounts s t)
    (requests : ∀ i, (t.stream i).requests = (s.stream i).requests) : Ledger k t := by
  have held : t.reservationsHeld = s.reservationsHeld := by
    simp only [State.reservationsHeld_eq, TakingState.held, same.taking, same.fences, sum_map_congr requests,
      sum_map_congr (f := fun t : TxStream => t.list.length) same.lists]
  refine ⟨by rw [same.reserved, held, h.reserved], ?_⟩
  rw [same.reserved, same.unconsumed, State.cqSize, same.ring]
  exact h.fits

theorem routine (h : Ledger k s) (hr : Routine s t) : Ledger k t := by
  refine h.of_same hr.accounts fun i => ?_
  have hs := hr.streams i
  have ho : (t.stream i).openPending.isSome = (s.stream i).openPending.isSome := hs.openPending
  have hc : (t.stream i).closePending = (s.stream i).closePending := hs.closePending
  rw [StreamRecord.requests, StreamRecord.requests, ho, hc]

theorem setStream {i : StreamId} {r : StreamRecord} (h : Ledger k s)
    (hr : r.requests + k' = (s.stream i).requests + k) : Ledger k' (s.setStream i r) := by
  have hsum : ((s.setStream i r).st.toList.map StreamRecord.requests).sum + (s.stream i).requests =
      (s.st.toList.map StreamRecord.requests).sum + r.requests := sum_map_set s.st StreamRecord.requests i r
  have held := h.reserved
  refine ⟨?_, h.fits⟩
  rw [State.reservationsHeld_eq] at held ⊢
  simp only [State.setStream_cp, State.setStream_rp, State.setStream_te, State.setStream_ft]
  omega

theorem setTxs {i : StreamId} {x : TxStream} (h : Ledger k s)
    (hr : x.list.length + k' = (s.txs i).list.length + k) : Ledger k' (s.setTxs i x) := by
  have hsum : ((s.setTxs i x).te.tx.toList.map fun t => t.list.length).sum + (s.txs i).list.length =
      (s.te.tx.toList.map fun t => t.list.length).sum + x.list.length := sum_map_set s.te.tx (fun t => t.list.length) i x
  have held := h.reserved
  refine ⟨?_, h.fits⟩
  rw [State.reservationsHeld_eq] at held ⊢
  simp only [State.setTxs_cp, State.setTxs_rp, State.setTxs_st, State.setTxs_ft]
  omega

theorem fences {l : List FenceRecord} (h : Ledger k s) (hr : l.length + k' = s.ft.length + k) :
    Ledger k' { s with ft := l } := by
  refine ⟨?_, h.fits⟩
  have held := h.reserved
  rw [State.reservationsHeld_eq] at held ⊢
  simp only
  omega

/-- Postings into slots in hand (R158, R160). -/
theorem withPosted {cs : List Completion} (h : Ledger (k + cs.length) s) : Ledger k (s.withPosted cs) := by
  have hr := CompletionPoster.foldl_reserved s.hau.cqRing cs s.cp
  have hu := CompletionPoster.foldl_unconsumed s.hau.cqRing cs s.cp
  have hheld : (s.withPosted cs).reservationsHeld = s.reservationsHeld := by
    simp only [State.reservationsHeld_eq, State.withPosted_rp, State.withPosted_st, State.withPosted_te,
      State.withPosted_ft]
  have held := h.reserved
  have fits := h.fits
  refine ⟨?_, ?_⟩
  · rw [State.withPosted_cp, hr, hheld]
    omega
  · rw [State.withPosted_cp, hr, hu, State.cqSize, State.withPosted_cqRing, ← State.cqSize]
    omega

theorem postReserved (h : Ledger (k + 1) s) (c : Completion) : Ledger k (s.postReserved c) := by
  rw [State.postReserved_eq]
  exact h.withPosted

theorem postDone (h : Ledger (k + 1) s) (kind : RequestKind) (i : StreamId) (tag : Tag) (x : Status) (b : DoneBody) :
    Ledger k (s.postDone kind i tag x b) := h.postReserved _

/-! ### Retirement -/

theorem setList {i : StreamId} {l : List SendEntry} (h : Ledger k s)
    (hl : l.length + k' = (s.txs i).list.length + k) : Ledger k' (s.setList i l) := h.setTxs hl

theorem reportRetirement (h : Ledger k s) (i : StreamId) (failed : Bool) : Ledger k (s.reportRetirement i failed) := by
  unfold State.reportRetirement
  rw [State.postFences_eq]
  refine withPosted (h.fences ?_)
  have := List.length_eq_length_filter_add (l := s.ft) (FenceRecord.completesAt i failed)
  simp only [List.length_map]
  omega

theorem retireAll {es : List SendEntry} {i : StreamId} (h : Ledger (k + es.length) s) : Ledger k (s.retireAll i es) := by
  unfold State.retireAll
  induction es generalizing s with
  | nil => exact h
  | cons e es ih =>
    have h : Ledger (k + es.length + 1) s := by simpa [Nat.add_assoc] using h
    exact ih ((h.postDone _ _ _ _ _).reportRetirement _ _)

theorem failList (h : Ledger k s) (i : StreamId) (cause : ListFailure) : Ledger k (s.failList i cause) := by
  have hf : Ledger k (s.freeSlotsOfStream i) := h.routine .of_blocks
  refine retireAll (hf.setList ?_)
  rw [List.length_map, List.length_nil]
  have : ((s.freeSlotsOfStream i).txs i).list = (s.txs i).list := rfl
  rw [this]
  omega

theorem retireHeads (h : Ledger k s) (i : StreamId) : Ledger k (s.retireHeads i) := by
  refine retireAll (h.setList ?_)
  have := congrArg List.length (List.takeWhile_append_dropWhile (p := SendEntry.finished) (l := (s.txs i).list))
  rw [List.length_append] at this
  rw [TxStream.finishedHead]
  omega

/-! ### The ends of streams -/

theorem sameRequests {i : StreamId} {r : StreamRecord} (h : Ledger k s) (hr : r.requests = (s.stream i).requests) :
    Ledger k (s.setStream i r) := h.setStream (by rw [hr])

theorem setRxs (h : Ledger k s) (i : StreamId) (r : RxStream) : Ledger k (s.setRxs i r) :=
  h.of_same ⟨fun _ => rfl, rfl, rfl, rfl, rfl, .rfl⟩ fun _ => rfl

theorem flush (h : Ledger k s) (i : StreamId) (reason : ReturnReason) : Ledger k (s.flush i reason) :=
  h.of_same ⟨fun _ => rfl, rfl, rfl, rfl, rfl, .rfl⟩ fun _ => rfl

theorem releaseBuffers (h : Ledger k s) (i : StreamId) : Ledger k (s.releaseBuffers i) := h.setRxs i _

theorem closeIfReleased (h : Ledger k s) (i : StreamId) : Ledger k (s.closeIfReleased i) := by
  rw [State.closeIfReleased_eq]
  split
  · refine withPosted (h.setStream ?_)
    simp only [StreamRecord.requests, closesDone, List.length_map, List.length_nil]
    omega
  · exact h

theorem enterReleasing (h : Ledger k s) (i : StreamId) (cause : ReleaseCause) : Ledger k (s.enterReleasing i cause) :=
  closeIfReleased (h.sameRequests (by rfl)) i

theorem endDrainIfEmpty (h : Ledger k s) (i : StreamId) : Ledger k (s.endDrainIfEmpty i) := by
  unfold State.endDrainIfEmpty
  split
  · exact ((h.flush i _).releaseBuffers i).enterReleasing i _
  · exact h

theorem retire (h : Ledger k s) (i : StreamId) : Ledger k (s.retire i) := by
  unfold State.retire
  split
  · exact h
  · exact (h.retireHeads i).endDrainIfEmpty i

theorem recordEvent (h : Ledger k s) (i : StreamId) (kind : EventKind) (g : Gen) : Ledger k (s.recordEvent i kind g) :=
  h.routine (.recordEvent i kind g s)

theorem reportFault (h : Ledger k s) (i : StreamId) (f : FaultReport) : Ledger k (s.reportFault i f) := by
  have hf := (h.failList i f.failure).flush i f.reason
  unfold State.reportFault
  split
  · exact recordEvent (hf.sameRequests (by rfl)) i _ _
  · exact (hf.releaseBuffers i).enterReleasing i _
  · exact h

theorem sendSync (h : Ledger k s) (i : StreamId) : Ledger k (s.sendSync i) :=
  routine (h.sameRequests (by rfl)) (.produceNotice _ _)

theorem restartStream (h : Ledger k s) (i : StreamId) : Ledger k (s.restartStream i) := by
  unfold State.restartStream
  split
  · exact h.reportFault i _
  · exact h.reportFault i _
  · exact h.recordEvent i _ _
  · exact h.sendSync i
  · exact h
  · exact h

theorem partnerRestart (h : Ledger k s) : Ledger k s.partnerRestart := by
  unfold State.partnerRestart
  generalize List.finRange 64 = l
  induction l generalizing s with
  | nil => exact h
  | cons i l ih => exact ih (h.restartStream i)

theorem restartOn (h : Ledger k s) (l : LaneId) (epoch : Byte) : Ledger k (s.restartOn l epoch) := by
  have hb : Ledger k (s.restartBegun l epoch) :=
    h.routine (.of_blocks (by simp) (by simp) (by simp) (by simp) (by simp) (by simp) (by simp) (by simp))
  rw [State.restartOn_eq]
  split
  · exact hb.partnerRestart.routine ((Routine.transmitLinkUp _).trans (.recordLinkChange _))
  · exact hb.partnerRestart.routine (.recordLinkChange _)

theorem finishOpen (h : Ledger k s) (i : StreamId) (x : Status) : Ledger k (s.finishOpen i x) := by
  cases ho : (s.stream i).openPending with
  | none => simpa only [State.finishOpen, ho] using h
  | some tag =>
    rw [State.finishOpen_eq ho]
    refine withPosted (h.setStream ?_)
    simp [StreamRecord.requests, ho]
    omega

theorem syncAckArrives (h : Ledger k s) (i : StreamId) (g : Gen) : Ledger k (s.syncAckArrives i g) := by
  unfold State.syncAckArrives
  split
  · exact finishOpen (h.sameRequests (by rfl)) i _
  · exact h

theorem adopt (h : Ledger k s) (i : StreamId) (g : Gen) : Ledger k (s.adopt i g) :=
  finishOpen (sameRequests (routine (h.sameRequests (by rfl)) (.produceNotice _ _)) (by rfl)) i _

theorem resetSequences (h : Ledger k s) (i : StreamId) : Ledger k (s.resetSequences i) :=
  setRxs (h.setTxs (by rfl)) i _

theorem resync (h : Ledger k s) (i : StreamId) (g : Gen) : Ledger k (s.resync i g) := by
  have h2 := ((h.failList i .peerResync).flush i .streamResync).resetSequences i
  exact endDrainIfEmpty (recordEvent (routine (h2.sameRequests (by rfl)) (.produceNotice _ _)) i _ _) i

theorem syncArrives (h : Ledger k s) (i : StreamId) (g : Gen) : Ledger k (s.syncArrives i g) := by
  have answered : Ledger k (s.produceNotice (.syncAck i g)) := h.routine (.produceNotice _ _)
  unfold State.syncArrives State.syncOpening State.syncOpened
  split
  · split
    · exact answered
    · split
      · exact h.adopt i g
      · exact h.sendSync i
  · split
    · exact answered
    · exact h.resync i g
  · split
    · exact answered
    · exact h.resync i g
  · exact h
  · exact h
  · exact h

theorem applyOutcome (h : Ledger k s) (i : StreamId) (g : Gen) (m : Msn) (x : EntryState) :
    Ledger k (s.applyOutcome i g m x) := by
  unfold State.applyOutcome
  split
  · exact h
  · next e _ =>
    split
    · exact h
    · exact (h.routine ((Routine.of_blocks (t := s.freeSlotOf i e.msn)).trans (.setEntry _ i m _))).retire i

theorem applyNotOpen (h : Ledger k s) (i : StreamId) (g : Gen) (m : Msn) : Ledger k (s.applyNotOpen i g m) := by
  unfold State.applyNotOpen
  split
  · exact h.reportFault i _
  · exact h

theorem ackExpiry (h : Ledger k s) (i : StreamId) (m : Msn) : Ledger k (s.ackExpiry i m) := by
  unfold State.ackExpiry
  split
  · exact h
  · split
    · exact h
    · split
      · unfold State.ackTimeout
        dsimp only
        split
        · exact (h.routine (.setEntry _ i m _)).reportFault i _
        · exact (h.routine (.setEntry _ i m _)).setTxs rfl
      · exact h

end Ledger

end Sys2Proof.Machine

namespace Sys2Proof.Machine

set_option Elab.async false -- one thread for each lemma would need more memory than the check allows

/-! ### Requests take the slot in hand -/

namespace Ledger
variable {k k' : Nat} {s t : State}

/-- The Request Processor takes or gives up the reservation of its record (R137, R140). -/
theorem setTaking {p : RequestProcessor} (h : Ledger k s) (hp : p.taking.held + k' = s.rp.taking.held + k) :
    Ledger k' { s with rp := p } := by
  have held := h.reserved
  refine ⟨?_, h.fits⟩
  rw [State.reservationsHeld_eq] at held ⊢
  simp only
  omega

theorem releaseReservation (h : Ledger (k + 1) s) : Ledger k s.releaseReservation := by
  have held := h.reserved
  have fits := h.fits
  constructor
  · rw [State.reservationsHeld_eq] at held ⊢
    simp only [State.releaseReservation]
    omega
  · simp only [State.releaseReservation, State.cqSize] at fits ⊢
    omega

theorem takeConfigure (h : Ledger (k + 1) s) (tag : Tag) (c : ConfigRecord) : Ledger k (s.takeConfigure tag c) := by
  unfold State.takeConfigure State.postDoneNoStream
  split
  · have hr := h.routine (.reconfigureLanes c.laneMask c.role c.localEpoch s)
    exact postReserved (hr.setTaking (by rfl)) _
  · exact h.postReserved _

theorem takeOpen (h : Ledger (k + 1) s) {i : StreamId} (ho : (s.view i).OpenAgrees) (tag : Tag) :
    Ledger k (s.takeOpen i tag) := by
  unfold State.takeOpen
  split
  · next hs =>
    have hn : (s.stream i).openPending.isSome = false := by
      have ho : (s.stream i).openPending.isSome = decide ((s.stream i).state = .opening) := ho
      simpa [hs] using ho
    refine sendSync (setStream (h.resetSequences i) ?_) i
    have hst : (s.resetSequences i).stream i = s.stream i := rfl
    simp only [StreamRecord.requests, hst, hn]
    simp
    omega
  · exact h.postDone _ _ _ _ _

theorem addClose (h : Ledger (k + 1) s) (i : StreamId) (tag : Tag) (mode : CloseMode) : Ledger k (s.addClose i tag mode) := by
  refine h.setStream ?_
  simp only [StreamRecord.requests, List.length_append, List.length_singleton]
  omega

theorem takeClose (h : Ledger (k + 1) s) (i : StreamId) (tag : Tag) (mode : CloseMode) :
    Ledger k (s.takeClose i tag mode) := by
  have ht := h.addClose i tag mode
  have now := (((ht.failList i .closedLocally).flush i .streamClosed).releaseBuffers i).enterReleasing i .closed
  unfold State.takeClose
  dsimp only
  split
  · have hc : Ledger k (((s.addClose i tag _).setStream i
        { (s.addClose i tag _).stream i with syncTimer := .stopped }).finishOpen i .cancelled) :=
      finishOpen (ht.sameRequests (by rfl)) i _
    exact ((hc.failList i _).releaseBuffers i).enterReleasing i _
  · exact endDrainIfEmpty (ht.sameRequests (by rfl)) i
  · exact now
  · exact now
  · exact (ht.releaseBuffers i).enterReleasing i _
  · exact h.postDone _ _ _ _ _

theorem takeSend (h : Ledger (k + 1) s) (i : StreamId) (tag : Tag) (a : HostAddr) (n : Nat) :
    Ledger k (s.takeSend i tag a n) := by
  unfold State.takeSend
  split
  · exact h.postDone _ _ _ _ _
  · refine h.setTxs ?_
    simp only [List.length_append, List.length_singleton]
    omega

theorem takePost (h : Ledger (k + 1) s) (i : StreamId) (tag : Tag) (a : HostAddr) (n : Nat) :
    Ledger k (s.takePost i tag a n) := by
  unfold State.takePost
  split
  · exact h.postDone _ _ _ _ _
  · exact postDone (h.setRxs i _) _ _ _ _ _

theorem takeFence (h : Ledger (k + 1) s) (tag : Tag) (scope : FenceScope) : Ledger k (s.takeFence tag scope) := by
  unfold State.takeFence
  split
  · exact h.postReserved _
  · dsimp only
    split
    · exact h.postReserved _
    · refine h.fences ?_
      simp only [List.length_append, List.length_singleton]
      omega

theorem takeQueryStream (h : Ledger (k + 1) s) (i : StreamId) (tag : Tag) (clear : Bool) :
    Ledger k (s.takeQueryStream i tag clear) := by
  have hp := h.postDone .queryStream i tag .success (.streamDone (s.streamReport i))
  unfold State.takeQueryStream
  dsimp only
  split
  · exact hp.routine (.clearStreamCounters i _)
  · exact hp

theorem takeQueryLink (h : Ledger (k + 1) s) (tag : Tag) (clear : Bool) : Ledger k (s.takeQueryLink tag clear) := by
  have hp := h.postReserved (.requestDone RequestKind.queryLink.code 0 tag .success (.linkDone s.linkReport))
  have cleared (u : State) : Routine u u.clearLaneCounters := .of_blocks
  unfold State.takeQueryLink State.postDoneNoStream
  dsimp only
  split
  · exact hp.routine (cleared _)
  · exact hp

/-- Every request posts into the slot in hand or keeps it for its completion (R145, R146). -/
theorem dispatch (h : Ledger (k + 1) s) (ho : ∀ i, (s.view i).OpenAgrees) (tag : Tag) (r : Request) :
    Ledger k (s.dispatch tag r) := by
  cases r with
  | configure mask role epoch ack retry hold sync => exact h.takeConfigure tag _
  | openStream i => exact h.takeOpen (ho i) tag
  | closeStream i mode => exact h.takeClose i tag mode
  | send i a n => exact h.takeSend i tag a n
  | post i a n => exact h.takePost i tag a n
  | fence scope => exact h.takeFence tag scope
  | queryStream i clear => exact h.takeQueryStream i tag clear
  | queryLink clear => exact h.takeQueryLink tag clear

theorem processRecord (h : Ledger (k + 1) s) (ho : ∀ i, (s.view i).OpenAgrees) (r : RequestRecord) :
    Ledger k (s.processRecord r) := by
  unfold State.processRecord
  split
  · exact h.postReserved _
  · split
    · exact h.dispatch ho _ _
    · exact h.postReserved _

theorem completeRecordRead (h : Ledger k s) (ho : ∀ i, (s.view i).OpenAgrees) (r : RequestRecord) :
    Ledger k (s.completeRecordRead r) := by
  unfold State.completeRecordRead
  split
  · exact h
  · next q _ =>
    have hd := h.routine (.dropRead q.id s)
    unfold State.recordReturned
    split
    · exact hd
    · split
      · next ht =>
        refine processRecord (hd.setTaking ?_) ho r
        simp [ht, TakingState.held]
        omega
      · next ht =>
        refine releaseReservation (s := { s.dropRead q.id with rp.taking := .idle }) (hd.setTaking ?_)
        simp [ht, TakingState.held]
        omega
      · exact hd

/-! ### The other events -/

theorem judgeInterrupt (h : Ledger k s) (b : Bool) : Ledger k (State.judgeInterrupt b s) :=
  h.routine (.judgeInterrupt b s)

theorem writeEnable (h : Ledger k s) (e : Bool) : Ledger k (s.writeEnable e) := by
  unfold State.writeEnable
  split
  · exact h.routine .of_blocks
  · unfold State.returnHeldReservation
    split
    · next ht =>
      have hi : Ledger (k + 1) { s with rp.taking := .idle } := h.setTaking (by simp [ht, TakingState.held]; omega)
      exact hi.releaseReservation.routine .of_blocks
    · exact h.routine .of_blocks
  · exact h

theorem writeControl (h : Ledger k s) (e ie : Bool) : Ledger k (s.writeControl e ie) :=
  judgeInterrupt (writeEnable (h.routine .of_blocks) e) _

theorem writeCqHead (h : Ledger k s) (v : BitVec 32) : Ledger k (s.writeCqHead v) := by
  unfold State.writeCqHead
  split
  · refine judgeInterrupt ?_ _
    refine ⟨h.reserved, ?_⟩
    have fits := h.fits
    simp only [State.cqSize] at fits ⊢
    omega
  · exact h

/-- A new ring order is taken only if its ring holds the reserved slots (R155). -/
theorem writeCqRing (h : Ledger k s) (v : BitVec 64) : Ledger k (s.writeCqRing v) := by
  unfold State.writeCqRing
  split
  · refine judgeInterrupt ?_ _
    refine ⟨h.reserved, ?_⟩
    have fits := h.fits
    by_cases ht : (orderValid (ringOrder v) && decide (s.cp.reserved ≤ 2 ^ (ringOrder v).toNat)) = true
    · simp only [State.cqSize, Ring.size, ht, if_true]
      simpa using (Bool.and_eq_true_iff.mp ht).2
    · simp only [State.cqSize, Ring.size, ht, if_false, Bool.false_eq_true] at fits ⊢
      omega
  · exact h

theorem canGrant_fits (hg : s.canGrant = true) : s.cp.unconsumed + s.cp.reserved < s.cqSize := by
  have free : 0 < s.cqSize - s.cp.unconsumed - s.cp.reserved := of_decide_eq_true (Bool.and_eq_true_iff.mp hg).1
  omega

theorem grantReservation (h : Ledger k s) (hg : s.reservationEnabled = true) : Ledger k s.grantReservation := by
  simp only [State.reservationEnabled, State.requestWish, Bool.and_eq_true, decide_eq_true_eq] at hg
  obtain ⟨⟨⟨⟨hc, _⟩, _⟩, _⟩, hi, _⟩ := hg
  have fits := canGrant_fits hc
  have held := h.reserved
  have taken (x : TakingState) (hx : x ≠ .idle) : Ledger k { s with rp.taking := x, cp.reserved := s.cp.reserved + 1 } := by
    constructor
    · rw [State.reservationsHeld_eq] at held ⊢
      simp only [TakingState.held, hi, hx, if_true, if_false] at held ⊢
      omega
    · simp only [State.cqSize] at fits ⊢
      omega
  unfold State.grantReservation
  dsimp only
  split
  · exact (taken (.reading false) (by simp)).routine .of_blocks
  · exact taken .holding (by simp)

/-- An unsolicited record takes a free slot (R158, R161). -/
theorem postRecord (h : Ledger k s) (hg : s.canGrant = true) (c : Completion) : Ledger k (s.postRecord c) := by
  have fits := canGrant_fits hg
  rw [State.postRecord_eq]
  refine ⟨h.reserved, ?_⟩
  simp only [State.withGranted, State.cqSize, CompletionPoster.append] at fits ⊢
  omega

theorem linkEventGrant (h : Ledger k s) : Ledger k (if s.linkGrantEnabled then s.grantLinkEvent else s) := by
  split
  · next hg => exact (h.postRecord (Bool.and_eq_true_iff.mp hg).1 _).routine .of_blocks
  · exact h

theorem streamEventGrant (h : Ledger k s) : Ledger k s.streamEventGrant := by
  unfold State.streamEventGrant
  split
  · next hg =>
    split
    · exact h
    · split
      · exact h
      · exact sameRequests (h.postRecord (Bool.and_eq_true_iff.mp hg).1 _) (by rfl)
  · exact h

theorem releaseListGrant (h : Ledger k s) : Ledger k s.releaseListGrant := by
  unfold State.releaseListGrant
  split
  · next hg =>
    have hc := (Bool.and_eq_true_iff.mp (Bool.and_eq_true_iff.mp hg).1).1
    split
    · exact h
    · next i _ =>
      split
      · exact h
      · exact closeIfReleased (routine (setRxs (h.postRecord hc _) i _) .of_blocks) i
  · exact h

/-- Every event keeps the account. -/
theorem event (h : Ledger 0 s) (ho : ∀ i, (s.view i).OpenAgrees) (he : Event s t) : Ledger 0 t := by
  have heard (l : LaneId) (r : Lane) : Ledger 0 (s.setLane l r) := h.routine (.setLane l r s)
  cases he with
  | routine hr => exact h.routine hr
  | control e ie => exact h.writeControl e ie
  | cqRing v => exact h.writeCqRing v
  | cqHead v => exact h.writeCqHead v
  | record r => exact h.completeRecordRead ho r
  | reservation hg => exact h.grantReservation hg
  | restart l r epoch => exact (heard l r).restartOn l epoch
  | sync l r i g => exact (heard l r).syncArrives i g
  | syncAck l r i g => exact (heard l r).syncAckArrives i g
  | outcome l r i g m x => exact (heard l r).applyOutcome i g m x
  | notOpen l r i g m => exact (heard l r).applyNotOpen i g m
  | ackExpiry i m => exact h.ackExpiry i m
  | linkEvent => exact h.linkEventGrant
  | streamEvent => exact h.streamEventGrant
  | releaseList => exact h.releaseListGrant

theorem reset (rq cq : Ring) (s : State) : Ledger 0 (s.resetWith rq cq) := by
  constructor
  · rw [State.reservationsHeld_eq]
    simp [State.resetWith, State.reset, CompletionPoster.reset, RequestProcessor.reset, TakingState.held,
      TransmitEngine.reset, StreamRecord.requests, StreamRecord.reset, TxStream.reset]
  · exact Nat.zero_le _

end Ledger

/-- Settles O51: a step keeps the ledger of reservations (`Ledger.event`), for which an OPEN must be pending in OPENING
alone, as every `StreamEffect` keeps it. -/
theorem stepKeepsSlotsAccounted : Obligations.StepKeepsSlotsAccounted := by
  intro s t ⟨hreserved, hfits, hopen⟩ hs
  have agrees : ∀ i, (t.view i).OpenAgrees :=
    step_keeps_views (P := StreamView.OpenAgrees) hopen hs rfl fun i w hw => hw.keeps_openAgrees (hopen i)
  have ledger : Ledger 0 t := by
    rcases step_cases hs with rfl | ⟨q, ⟨rq, cq, rfl⟩ | he⟩
    · exact ⟨hreserved, hfits⟩
    · exact .reset rq cq _
    · exact Ledger.event (s := { s with pending := q }) ⟨hreserved, hfits⟩ hopen he
  exact ⟨ledger.reserved, ledger.fits, agrees⟩

end Sys2Proof.Machine

namespace Sys2Proof.Machine

set_option Elab.async false -- one thread for each lemma would need more memory than the check allows

/-! ### What retirement and the end of a stream leave alone, with any fences -/

/-- Retirement posts records and changes the fences, whatever fences there are (R47, R100, R101). -/
theorem State.retireAll_posts (i : StreamId) (es : List SendEntry) (s : State) :
    ∃ cs ft, s.retireAll i es = State.withPosted cs { s with ft := ft } := by
  unfold retireAll
  induction es generalizing s with
  | nil => exact ⟨[], s.ft, rfl⟩
  | cons e es ih =>
    obtain ⟨cs, ft, h⟩ := ih (s.retireEntry i e)
    rw [List.foldl_cons, h, retireEntry, reportRetirement, postFences_eq, postDone, postReserved_eq]
    simp only [withPosted_ft, ft_withPosted, withPosted_append]
    exact ⟨_, _, rfl⟩

section
variable (i : StreamId) (es : List SendEntry) (s : State)
@[simp] theorem State.retireAll_rp : (s.retireAll i es).rp = s.rp := by
  obtain ⟨cs, ft, h⟩ := retireAll_posts i es s
  simp [h]
@[simp] theorem State.retireAll_engine : (s.retireAll i es).hau.engine = s.hau.engine := by
  obtain ⟨cs, ft, h⟩ := retireAll_posts i es s
  simp [h]
@[simp] theorem State.retireAll_te : (s.retireAll i es).te = s.te := by
  obtain ⟨cs, ft, h⟩ := retireAll_posts i es s
  simp [h]
@[simp] theorem State.retireAll_re : (s.retireAll i es).re = s.re := by
  obtain ⟨cs, ft, h⟩ := retireAll_posts i es s
  simp [h]
@[simp] theorem State.retireAll_lm : (s.retireAll i es).lm = s.lm := by
  obtain ⟨cs, ft, h⟩ := retireAll_posts i es s
  simp [h]
end

section
variable (i : StreamId) (cause : ListFailure) (s : State)
@[simp] theorem State.failList_rp : (s.failList i cause).rp = s.rp := by simp [failList, setList, freeSlotsOfStream]
@[simp] theorem State.failList_engine : (s.failList i cause).hau.engine = s.hau.engine := by
  simp [failList, setList, freeSlotsOfStream]
@[simp] theorem State.failList_re : (s.failList i cause).re = s.re := by simp [failList, setList, freeSlotsOfStream]
@[simp] theorem State.failList_lm : (s.failList i cause).lm = s.lm := by simp [failList, setList, freeSlotsOfStream]
theorem State.failList_te_tx : (s.failList i cause).te.tx = (s.setList i []).te.tx := by
  simp [failList, setList, freeSlotsOfStream]
  rfl
end

section
variable (i : StreamId) (cause : ReleaseCause) (s : State)
@[simp] theorem State.enterReleasing_engine : (s.enterReleasing i cause).hau.engine = s.hau.engine := by
  rw [enterReleasing_eq]; split <;> simp
@[simp] theorem State.enterReleasing_rp : (s.enterReleasing i cause).rp = s.rp := by
  rw [enterReleasing_eq]; split <;> simp
@[simp] theorem State.enterReleasing_te : (s.enterReleasing i cause).te = s.te := by
  rw [enterReleasing_eq]; split <;> simp
@[simp] theorem State.enterReleasing_re : (s.enterReleasing i cause).re = s.re := by
  rw [enterReleasing_eq]; split <;> simp
@[simp] theorem State.enterReleasing_lm : (s.enterReleasing i cause).lm = s.lm := by
  rw [enterReleasing_eq]; split <;> simp
end

/-- The stream takes part in a partner restart with its lists (R22). -/
def StreamState.restarts (x : StreamState) : Bool := decide (x = .opened ∨ x = .draining)

/-- A fault report touches neither the configuration, the engine state nor the link (R19, R20). -/
theorem State.reportFault_frame (i : StreamId) (f : FaultReport) (s : State) :
    (s.reportFault i f).rp = s.rp ∧ (s.reportFault i f).hau.engine = s.hau.engine ∧ (s.reportFault i f).lm = s.lm := by
  unfold reportFault
  split
  · exact ⟨failList_rp i f.failure s, failList_engine i f.failure s, failList_lm i f.failure s⟩
  · simp [releaseBuffers, flush, appendRelease]
  · exact ⟨rfl, rfl, rfl⟩

/-- A fault report empties the list and frees the contexts of an OPEN or DRAINING stream (R48, R49, R88). -/
theorem State.reportFault_lists {i : StreamId} (f : FaultReport) {s : State} (h : (s.stream i).state.restarts = true) :
    (s.reportFault i f).te.tx = (s.setList i []).te.tx ∧
      (s.reportFault i f).re.contexts = s.re.contexts.filter fun c => decide (c.stream ≠ i) := by
  have h : (s.stream i).state = .opened ∨ (s.stream i).state = .draining := of_decide_eq_true h
  have hc := congrArg ReceiveEngine.contexts (failList_re i f.failure s)
  rcases h with h | h <;> simp only [reportFault, h]
  · refine ⟨failList_te_tx i f.failure s, ?_⟩
    exact congrArg (List.filter _) hc
  · rw [enterReleasing_te, enterReleasing_re]
    exact ⟨failList_te_tx i f.failure s, congrArg (List.filter _) hc⟩

/-! ### A stream after the restart -/

/-- `State.flushed` reads the stream's view alone. -/
def StreamView.flushed (v : StreamView) (reason : ReturnReason) : List ReleaseEntry :=
  let cs := v.contexts.insertionSort fun a b => v.rx.position a.msn ≤ v.rx.position b.msn
  (cs.filter ReContext.ready).map (ReContext.arrival v.record.gen)
    ++ (cs.filter fun c => !c.ready).map (ReContext.giveBack v.record.gen reason)

theorem State.flushed_view (s : State) (i : StreamId) (reason : ReturnReason) :
    s.flushed i reason = (s.view i).flushed reason := rfl

/-- `State.resetReleases` for a view. -/
def StreamView.resetReleases (v : StreamView) : List ReleaseEntry :=
  v.rx.releaseList ++ v.flushed .peerReset ++ v.rx.bufferList.map fun b => ⟨b, .bufferReturn v.record.gen .streamClosed⟩

theorem State.resetReleases_view (s : State) (i : StreamId) : s.resetReleases i = (s.view i).resetReleases := rfl

/-- A stream after a partner restart, with the configured sync interval (R22). -/
def StreamView.restarted (interval : Nat) (v : StreamView) : StreamView :=
  match v.record.state with
  | .opened =>
    ⟨{ v.record with state := .faulted }.withEvent (.faulted .peerReset) v.record.gen, [],
      { v.rx with releaseList := v.rx.releaseList ++ v.flushed .peerReset }, []⟩
  | .draining =>
    ⟨if v.resetReleases = [] then { v.record with state := .closed, releaseCause := .faulted, closePending := [] }
      else { v.record with state := .releasing, releaseCause := .faulted }, [],
      { v.rx with bufferList := [], releaseList := v.resetReleases }, []⟩
  | .faulted => { v with record := v.record.withEvent (.faulted .peerReset) v.record.gen }
  | .opening => { v with record := { v.record with syncSent := satInc v.record.syncSent, syncTimer := .running interval } }
  | .closed => v
  | .releasing => v

theorem State.recordEvent_view_self (s : State) (i : StreamId) (k : EventKind) (g : Gen) :
    (s.recordEvent i k g).view i = { s.view i with record := (s.stream i).withEvent k g } := s.setStream_view_self i _

/-- A stream whose list has failed and whose contexts are flushed (R49, R88). -/
theorem State.failFlush_view_self (s : State) (i : StreamId) (cause : ListFailure) (reason : ReturnReason) :
    ((s.failList i cause).flush i reason).view i = ⟨s.stream i, [],
      { s.rxs i with releaseList := (s.rxs i).releaseList ++ s.flushed i reason }, []⟩ := by
  have hv := failList_view_self s i cause
  have hf : (s.failList i cause).flushed i reason = s.flushed i reason := by
    rw [flushed_view, hv]
    rfl
  rw [flush_view_self, hf, rxs_of_view hv, hv]
  rfl

/-- `failFlush_view_self`, and the buffer list returned after that (R63). -/
theorem State.failRelease_view_self (s : State) (i : StreamId) (cause : ListFailure) (reason : ReturnReason) :
    (((s.failList i cause).flush i reason).releaseBuffers i).view i = ⟨s.stream i, [],
      { s.rxs i with
        bufferList := []
        releaseList := (s.rxs i).releaseList ++ s.flushed i reason ++ s.listReturned i }, []⟩ := by
  have hv := failFlush_view_self s i cause reason
  rw [releaseBuffers_view_self, listReturned, rxs_of_view hv, stream_of_view hv, hv]
  rfl

theorem State.restartStream_view_self (s : State) (i : StreamId) :
    (s.restartStream i).view i = (s.view i).restarted s.rp.config.syncInterval := by
  have hs : (s.view i).record.state = (s.stream i).state := rfl
  unfold restartStream StreamView.restarted
  rw [hs]
  cases h : (s.stream i).state with
  | closed => rfl
  | releasing => rfl
  | opening =>
    dsimp only
    rw [sendSync, produceNotice_view, setStream_view_self]
    rfl
  | faulted => exact s.recordEvent_view_self i _ _
  | opened =>
    have hf := failFlush_view_self s i .peerReset .peerReset
    simp only [reportFault, h, FaultReport.failure, FaultReport.reason, FaultReport.cause]
    rw [recordEvent_view_self, setState, setStream_view_self, setStream_stream_self, stream_of_view hf, hf]
    rfl
  | draining =>
    have hb := failRelease_view_self s i .peerReset .peerReset
    simp only [reportFault, h, FaultReport.failure, FaultReport.reason]
    rw [enterReleasing_view_self, rxs_of_view hb, stream_of_view hb, hb]
    rfl

theorem State.restartStream_view_ne (s : State) {i j : StreamId} (h : j ≠ i) : (s.restartStream i).view j = s.view j :=
  (MovesOne.restartStream i s).other j h

theorem State.restartStream_rp_engine (s : State) (i : StreamId) :
    (s.restartStream i).rp = s.rp ∧ (s.restartStream i).hau.engine = s.hau.engine := by
  have hf : (s.reportFault i .peerReset).rp = s.rp ∧ (s.reportFault i .peerReset).hau.engine = s.hau.engine :=
    (reportFault_frame i .peerReset s).imp_right And.left
  unfold restartStream
  split
  · exact hf
  · exact hf
  · exact ⟨rfl, rfl⟩
  · simp [sendSync, produceNotice_eq]
  · exact ⟨rfl, rfl⟩
  · exact ⟨rfl, rfl⟩

/-! ### The restart over all streams -/

/-- Events on different streams, one after another: each stream shows its own. -/
theorem State.foldl_restartStream_view {l : List StreamId} (hn : l.Nodup) (s : State) (i : StreamId) :
    (l.foldl restartStream s).view i =
      if i ∈ l then (s.view i).restarted s.rp.config.syncInterval else s.view i := by
  induction l generalizing s with
  | nil => simp
  | cons j l ih =>
    obtain ⟨hj, hl⟩ := List.nodup_cons.mp hn
    rw [List.foldl_cons, ih hl, (s.restartStream_rp_engine j).1]
    by_cases hi : i = j
    · subst hi
      rw [if_neg hj, if_pos (List.mem_cons_self ..), restartStream_view_self]
    · simp only [restartStream_view_ne s hi, List.mem_cons, or_iff_right hi]

theorem State.partnerRestart_view (s : State) (i : StreamId) :
    s.partnerRestart.view i = (s.view i).restarted s.rp.config.syncInterval := by
  rw [partnerRestart, foldl_restartStream_view (List.nodup_finRange 64), if_pos (List.mem_finRange i)]

theorem State.partnerRestart_engine (s : State) : s.partnerRestart.hau.engine = s.hau.engine :=
  List.foldlRecOn (motive := fun u => u.hau.engine = s.hau.engine) _ restartStream rfl
    fun u hu i _ => (u.restartStream_rp_engine i).2.trans hu

end Sys2Proof.Machine

namespace Sys2Proof.Machine

set_option Elab.async false -- one thread for each lemma would need more memory than the check allows

/-! ### The restart over all streams, block by block -/

/-- What a restart of one stream leaves of the lists, the contexts and the link (R22, R48, R49, R88). -/
theorem State.restartStream_blocks (s : State) (i : StreamId) :
    (s.restartStream i).te.tx = (if (s.stream i).state.restarts then (s.setList i []).te.tx else s.te.tx) ∧
    (s.restartStream i).re.contexts = (if (s.stream i).state.restarts then
      s.re.contexts.filter fun c => decide (c.stream ≠ i) else s.re.contexts) ∧
    (s.restartStream i).lm = if (s.stream i).state = .opening then
      (s.produceNotice (.sync i (s.stream i).gen)).lm else s.lm := by
  unfold restartStream
  cases h : (s.stream i).state with
  | closed => exact ⟨rfl, rfl, rfl⟩
  | releasing => exact ⟨rfl, rfl, rfl⟩
  | faulted => exact ⟨rfl, rfl, rfl⟩
  | opening =>
    simp only [sendSync, produceNotice_eq]
    exact ⟨rfl, rfl, rfl⟩
  | opened =>
    obtain ⟨ht, hc⟩ := reportFault_lists (s := s) (i := i) .peerReset (by simp [StreamState.restarts, h])
    exact ⟨ht, hc, (reportFault_frame i .peerReset s).2.2⟩
  | draining =>
    obtain ⟨ht, hc⟩ := reportFault_lists (s := s) (i := i) .peerReset (by simp [StreamState.restarts, h])
    exact ⟨ht, hc, (reportFault_frame i .peerReset s).2.2⟩

theorem StreamView.restarted_restarts (n : Nat) (v : StreamView) (h : v.record.state.restarts = false) :
    (v.restarted n).record.state = v.record.state := by
  unfold restarted
  split <;> simp_all [StreamState.restarts, StreamRecord.withEvent]

/-- A stream without lists of its own keeps them through the restart of all the others. -/
theorem State.foldl_restartStream_txs (l : List StreamId) {s : State} {i : StreamId}
    (h : (s.stream i).state.restarts = false) : (l.foldl restartStream s).txs i = s.txs i := by
  refine (List.foldlRecOn (motive := fun u => u.txs i = s.txs i ∧ (u.stream i).state.restarts = false) _ restartStream
    ⟨rfl, h⟩ fun u ⟨hu, hr⟩ j _ => ?_).1
  have htx := (u.restartStream_blocks j).1
  by_cases hj : i = j
  · subst hj
    rw [if_neg (by simp [hr])] at htx
    refine ⟨(congrArg (fun v : Vector TxStream 64 => v[i]) htx).trans hu, ?_⟩
    rw [stream_of_view (u.restartStream_view_self i), StreamView.restarted_restarts _ _ hr]
    exact hr
  · rw [stream_of_view (u.restartStream_view_ne hj)]
    refine ⟨?_, hr⟩
    rw [← hu]
    refine (congrArg (fun v : Vector TxStream 64 => v[i]) htx).trans ?_
    split
    · exact setTxs_txs_ne u _ _ _ hj
    · rfl

/-- The restart frees the contexts of OPEN and DRAINING streams (R88). -/
theorem State.foldl_restartStream_contexts {l : List StreamId} (hn : l.Nodup) (s : State) :
    (l.foldl restartStream s).re.contexts = s.re.contexts.filter fun c =>
      !(decide (c.stream ∈ l) && (s.stream c.stream).state.restarts) := by
  induction l generalizing s with
  | nil => simp
  | cons i l ih =>
    obtain ⟨hi, hl⟩ := List.nodup_cons.mp hn
    have hc : (s.restartStream i).re.contexts = s.re.contexts.filter fun c =>
        !(decide (c.stream = i) && (s.stream c.stream).state.restarts) := by
      rw [(s.restartStream_blocks i).2.1]
      split
      · next h => exact List.filter_congr fun c _ => by by_cases hc : c.stream = i <;> simp [hc, h]
      · next h => exact (List.filter_eq_self.mpr fun c _ => by by_cases hc : c.stream = i <;> simp [hc, h]).symm
    rw [List.foldl_cons, ih hl, hc, List.filter_filter]
    refine List.filter_congr fun c _ => ?_
    by_cases h : c.stream = i
    · simp [h, hi]
    · simp [h, stream_of_view (s.restartStream_view_ne h)]
      rfl

/-- The SYNCs that the OPENING streams of a list repeat (R22). -/
def State.syncsOf (s : State) (l : List StreamId) : List Notice :=
  (l.filter fun i => decide ((s.stream i).state = .opening)).map fun i => Notice.sync i (s.stream i).gen

/-- With the link UP a notice joins the tail of the queue, as far as it holds 32 (R125). -/
theorem State.produceNotice_lm_up {s : State} (hup : s.lm.linkState = .up) (hq : s.lm.noticeQueue.length ≤ 32) (n : Notice) :
    (s.produceNotice n).lm = { s.lm with noticeQueue := (s.lm.noticeQueue ++ [n]).take 32 } := by
  rw [produceNotice_eq]
  by_cases h : s.lm.noticeQueue.length < 32
  · simp only [hup, h, true_and, if_true]
    rw [List.take_of_length_le (by simpa using h)]
  · have h32 : s.lm.noticeQueue.length = 32 := by omega
    simp [h32]

theorem take_take_append {α : Type} (n : Nat) (a b : List α) : (a.take n ++ b).take n = (a ++ b).take n := by
  rw [List.take_append, List.take_append, List.take_take, Nat.min_self, List.length_take]
  congr 2
  omega

/-- The SYNCs join the notice queue in stream order, as far as it holds them (R22, R125). -/
theorem State.foldl_restartStream_lm {l : List StreamId} (hn : l.Nodup) {s : State} (hup : s.lm.linkState = .up)
    (hq : s.lm.noticeQueue.length ≤ 32) :
    (l.foldl restartStream s).lm = { s.lm with noticeQueue := (s.lm.noticeQueue ++ s.syncsOf l).take 32 } := by
  induction l generalizing s with
  | nil => simp [syncsOf, List.take_of_length_le hq]
  | cons i l ih =>
    obtain ⟨hi, hl⟩ := List.nodup_cons.mp hn
    have hlater : (s.restartStream i).syncsOf l = s.syncsOf l := by
      have hs : ∀ j ∈ l, (s.restartStream i).stream j = s.stream j := fun j hj =>
        stream_of_view (s.restartStream_view_ne (ne_of_mem_of_not_mem hj hi))
      unfold syncsOf
      rw [List.filter_congr fun j hj => by rw [hs j hj]]
      exact List.map_congr_left fun j hj => by rw [hs j (List.mem_of_mem_filter hj)]
    by_cases h : (s.stream i).state = .opening
    · have hlist : s.syncsOf (i :: l) = [.sync i (s.stream i).gen] ++ s.syncsOf l := by simp [syncsOf, h]
      have hlm := (s.restartStream_blocks i).2.2
      rw [if_pos h, produceNotice_lm_up hup hq] at hlm
      rw [List.foldl_cons, ih hl (by rw [hlm]; exact hup) (by simp [hlm]), hlater, hlm, hlist]
      simp only [take_take_append, List.append_assoc]
    · have hlist : s.syncsOf (i :: l) = s.syncsOf l := by simp [syncsOf, h]
      have hlm := (s.restartStream_blocks i).2.2
      rw [if_neg h] at hlm
      rw [List.foldl_cons, ih hl (by rw [hlm]; exact hup) (by rw [hlm]; exact hq), hlater, hlm, hlist]

/-! ### What the restart posts -/

/-- What is posted shows no other block than the two that hold it. -/
theorem State.withPosted_congr {s t : State} (hcp : t.cp = s.cp) (hhau : t.hau = s.hau) (cs : List Completion) :
    (t.withPosted cs).cp = (s.withPosted cs).cp ∧ (t.withPosted cs).hau = (s.withPosted cs).hau := by
  unfold withPosted
  split
  · exact ⟨hcp, hhau⟩
  · simp only [owedByPosting, unwrittenRecords, hcp, hhau, and_self]

/-- An event that posts these completions and leaves these fences pending. -/
def Posts (s t : State) (p : List Completion × List FenceRecord) : Prop :=
  t.ft = p.2 ∧ t.cp = (s.withPosted p.1).cp ∧ t.hau = (s.withPosted p.1).hau

theorem Posts.trans {s t u : State} {p q : List Completion × List FenceRecord} (h : Posts s t p) (h' : Posts t u q) :
    Posts s u (p.1 ++ q.1, q.2) := by
  obtain ⟨_, hcp, hhau⟩ := h
  obtain ⟨hft', hcp', hhau'⟩ := h'
  obtain ⟨hc, hh⟩ := State.withPosted_congr hcp hhau q.1
  refine ⟨hft', ?_, ?_⟩
  · rw [hcp', hc, State.withPosted_append]
  · rw [hhau', hh, State.withPosted_append]

theorem fencesAfter_unsettled (i : StreamId) (es : List SendEntry) {ft : List FenceRecord}
    (h : ∀ r ∈ ft, r.settled = false) : ∀ r ∈ fencesAfter i es ft, r.settled = false := by
  induction es generalizing ft with
  | nil => exact h
  | cons e es ih => exact ih (fencesLeft_unsettled i e ft)

/-- A state in which completions are posted, after changes that the posting does not read. -/
theorem Posts.withPosted {s t : State} (hcp : t.cp = s.cp) (hhau : t.hau = s.hau) (cs : List Completion) :
    Posts s (t.withPosted cs) (cs, t.ft) :=
  ⟨t.withPosted_ft cs, (State.withPosted_congr hcp hhau cs).1, (State.withPosted_congr hcp hhau cs).2⟩

/-- What the restart of one stream posts (R20, R22, R47). -/
theorem Posts.restartStream {s : State} (h : FencesUnsettled s) (i : StreamId) :
    Posts s (s.restartStream i) (s.restartPosts [i] s.ft) := by
  have hl : s.resetList i = failedList .peerReset (s.txs i).list := rfl
  have none_posted (t : State) (hn : ¬((s.stream i).state = .opened ∨ (s.stream i).state = .draining))
      (hft : t.ft = s.ft) (hcp : t.cp = s.cp) (hhau : t.hau = s.hau) : Posts s t (s.restartPosts [i] s.ft) := by
    simp only [State.restartPosts, if_neg hn]
    exact ⟨hft, hcp, hhau⟩
  unfold State.restartStream
  cases hs : (s.stream i).state with
  | closed => exact none_posted s (by simp [hs]) rfl rfl rfl
  | releasing => exact none_posted s (by simp [hs]) rfl rfl rfl
  | faulted => exact none_posted _ (by simp [hs]) rfl rfl rfl
  | opening =>
    refine none_posted _ (by simp [hs]) ?_ ?_ ?_ <;> simp [State.sendSync, State.produceNotice_eq]
  | opened =>
    dsimp only
    rw [State.reportFault_opened h hs]
    have hp : s.restartPosts [i] s.ft = (retirePosts i (s.resetList i) s.ft, fencesAfter i (s.resetList i) s.ft) := by
      simp [State.restartPosts, hs]
    rw [hp]
    rw [State.faultedBy, State.withRetired]
    refine .withPosted ?_ ?_ _ <;> rfl
  | draining =>
    dsimp only
    rw [State.reportFault_draining h hs]
    have hp : s.restartPosts [i] s.ft = (retirePosts i (s.resetList i) s.ft ++ 
        if decide ((s.rxs i).releaseList ++ (s.flushed i .peerReset ++ s.listReturned i) = []) then closesDone i (s.stream i).closePending .faulted else [], fencesAfter i (s.resetList i) s.ft) := by
      simp [State.restartPosts, hs, State.resetReleases]
    rw [hp]
    rw [State.ended]
    refine .withPosted ?_ ?_ _ <;> rfl

/-- One stream's postings, and then those of the others. -/
theorem State.restartPosts_cons (s : State) (i : StreamId) (l : List StreamId) (ft : List FenceRecord) :
    s.restartPosts (i :: l) ft = ((s.restartPosts [i] ft).1 ++ (s.restartPosts l (s.restartPosts [i] ft).2).1,
      (s.restartPosts l (s.restartPosts [i] ft).2).2) := by
  simp only [restartPosts]
  split
  · simp
  · rfl

/-- The postings show nothing of a stream but its view. -/
theorem State.restartPosts_congr {s t : State} {l : List StreamId} (h : ∀ i ∈ l, t.view i = s.view i)
    (ft : List FenceRecord) : t.restartPosts l ft = s.restartPosts l ft := by
  induction l generalizing ft with
  | nil => rfl
  | cons i l ih =>
    obtain ⟨hi, hl⟩ := List.forall_mem_cons.mp h
    have hs : t.stream i = s.stream i := stream_of_view hi
    have hlist : t.resetList i = s.resetList i := congrArg (List.map _) (list_of_view hi)
    have hrel : t.resetReleases i = s.resetReleases i := by rw [resetReleases_view, resetReleases_view, hi]
    simp only [restartPosts, hs, hlist, hrel, ih hl]

theorem State.restartPosts_unsettled {s : State} (l : List StreamId) {ft : List FenceRecord}
    (h : ∀ r ∈ ft, r.settled = false) : ∀ r ∈ (s.restartPosts l ft).2, r.settled = false := by
  induction l generalizing ft with
  | nil => exact h
  | cons i l ih =>
    unfold restartPosts
    dsimp only
    split
    · exact ih (fencesAfter_unsettled i _ h)
    · exact ih h

/-- The restart posts for stream after stream (R22). -/
theorem Posts.foldl_restartStream {l : List StreamId} (hn : l.Nodup) {s : State} (h : FencesUnsettled s) :
    Posts s (l.foldl State.restartStream s) (s.restartPosts l s.ft) := by
  induction l generalizing s with
  | nil => exact ⟨rfl, rfl, rfl⟩
  | cons i l ih =>
    obtain ⟨hi, hl⟩ := List.nodup_cons.mp hn
    have hp := Posts.restartStream h i
    have hft : (s.restartStream i).ft = (s.restartPosts [i] s.ft).2 := hp.1
    have hl := ih hl (s := s.restartStream i) fun r hr => State.restartPosts_unsettled [i] h r (hft ▸ hr)
    rw [hft, State.restartPosts_congr fun j hj => s.restartStream_view_ne (ne_of_mem_of_not_mem hj hi)] at hl
    rw [List.foldl_cons, State.restartPosts_cons]
    exact hp.trans hl

end Sys2Proof.Machine

namespace Sys2Proof.Machine

set_option Elab.async false -- one thread for each lemma would need more memory than the check allows

/-! ### The state after a partner restart -/

section
variable {s : State} {l : LaneId} {epoch : Byte}

theorem exec_alignReceived_restart {role : Role} (he : s.hau.engine ≠ .halted) (hz : epoch ≠ 0)
    (hal : (s.lane l).state = .aligned) (hrole : role ≠ s.rp.config.role) (hp : s.lm.partnerEpoch ≠ 0)
    (hne : s.lm.partnerEpoch ≠ epoch) :
    exec (.alignReceived l role epoch true) s = .next ((s.heard l).restartOn l epoch) := by
  have hh : s.isHalted = false := by simp [State.isHalted, he]
  have hg : s.setLane l (s.lane l).hearGood = s.heard l := by
    simp only [State.heard, Lane.hearGood, hal]
    rfl
  have hr : (s.heard l).alignedAlign l role epoch true = (s.heard l).laneUp l epoch := if_neg hrole
  have hu : (s.heard l).laneUp l epoch = (s.heard l).restartOn l epoch := if_neg (not_or.mpr ⟨hp, hne⟩)
  simp only [exec, execAlignReceived, if_neg hz, State.hearAlign, hh, hal, hg, hr, hu]
  rfl

theorem State.seekOthers_lane (k : LaneId) : (s.seekOthers l).lane k =
    if k ≠ l ∧ ((s.lane k).state = .aligned ∨ (s.lane k).state = .up) then (s.lane k).seekingFrom else s.lane k := by
  rw [← Lane.toSeeking_eq]
  exact Vector.getElem_ofFn k.isLt

/-- The lanes and the link once a restart is told to the streams (R122). -/
theorem State.restartBegun_lm :
    let b := (s.heard l).restartBegun l epoch
    b.lm.partnerEpoch = epoch ∧ b.lm.linkState = .up ∧ b.lm.linkEvent = s.lm.linkEvent ∧ b.lm.noticeQueue = [] ∧
      b.lane l = { s.lane l with state := .up, badRun := 0, silenceTimer := .running 64 } ∧
      ∀ k, k ≠ l → b.lane k =
        if (s.lane k).state = .aligned ∨ (s.lane k).state = .up then (s.lane k).seekingFrom else s.lane k := by
  have hb (k : LaneId) : ((s.heard l).restartBegun l epoch).lane k =
      (((s.heard l).setLane l { (s.heard l).lane l with state := .up }).seekOthers l).lane k := rfl
  refine ⟨rfl, rfl, rfl, rfl, ?_, fun k hk => ?_⟩
  · rw [hb, seekOthers_lane, if_neg fun h => h.1 rfl, heard, setLane_lane_self, setLane_lane_self]
  · rw [hb, seekOthers_lane, heard, setLane_lane_ne _ _ _ _ hk, setLane_lane_ne _ _ _ _ hk]
    simp only [hk, ne_eq, not_false_eq_true, true_and]
end

/-- What a change of the link state to UP tells the Transmit Engine, and the link change (R51, R124). -/
theorem State.linkRestored_blocks {u : State} (hu : u.isHalted = false) (down : Prop) [Decidable down] :
    let t := (if down then u.transmitLinkUp else u).recordLinkChange
    t.st = u.st ∧ t.re = u.re ∧ t.ft = u.ft ∧ t.cp = u.cp ∧ t.hau = u.hau ∧
      t.lm = { u.lm with linkEvent := satInc u.lm.linkEvent } ∧
      ∀ i, t.txs i = { u.txs i with
        list := if down then (u.txs i).list.map SendEntry.resumeTimers else (u.txs i).list } := by
  by_cases hd : down
  · simp only [if_pos hd, transmitLinkUp, hu]
    refine ⟨rfl, rfl, rfl, rfl, rfl, rfl, fun i => ?_⟩
    simp [txs, recordLinkChange]
  · simp only [if_neg hd]
    exact ⟨rfl, rfl, rfl, rfl, rfl, rfl, fun _ => rfl⟩

/-! ### All streams told of the restart -/

section
variable (s : State)
theorem State.partnerRestart_txs {i : StreamId} (h : (s.stream i).state.restarts = false) :
    s.partnerRestart.txs i = s.txs i := foldl_restartStream_txs _ h

theorem State.partnerRestart_contexts :
    s.partnerRestart.re.contexts = s.re.contexts.filter fun c =>
      decide ((s.stream c.stream).state ≠ .opened ∧ (s.stream c.stream).state ≠ .draining) := by
  rw [partnerRestart, foldl_restartStream_contexts (List.nodup_finRange 64)]
  refine List.filter_congr fun c _ => ?_
  simp [StreamState.restarts]

theorem State.partnerRestart_lm (hup : s.lm.linkState = .up) (hq : s.lm.noticeQueue = []) :
    s.partnerRestart.lm = { s.lm with noticeQueue := (s.syncsOf (List.finRange 64)).take 32 } := by
  rw [partnerRestart, foldl_restartStream_lm (List.nodup_finRange 64) hup (by simp [hq]), hq, List.nil_append]

theorem Posts.partnerRestart (h : FencesUnsettled s) :
    Posts s s.partnerRestart (s.restartPosts (List.finRange 64) s.ft) :=
  foldl_restartStream (List.nodup_finRange 64) h
end

/-! What a restarted stream shows, by its state before (R22). -/

section
variable {n : Nat} {v : StreamView}
theorem StreamView.restarted_opened (h : v.record.state = .opened) : v.restarted n =
    ⟨{ v.record with state := .faulted }.withEvent (.faulted .peerReset) v.record.gen, [],
      { v.rx with releaseList := v.rx.releaseList ++ v.flushed .peerReset }, []⟩ := by
  simp only [restarted, h]

theorem StreamView.restarted_draining (h : v.record.state = .draining) : v.restarted n =
    ⟨if v.resetReleases = [] then { v.record with state := .closed, releaseCause := .faulted, closePending := [] }
      else { v.record with state := .releasing, releaseCause := .faulted }, [],
      { v.rx with bufferList := [], releaseList := v.resetReleases }, []⟩ := by
  simp only [restarted, h]

theorem StreamView.restarted_faulted (h : v.record.state = .faulted) : v.restarted n =
    { v with record := v.record.withEvent (.faulted .peerReset) v.record.gen } := by
  simp only [restarted, h]

theorem StreamView.restarted_opening (h : v.record.state = .opening) : v.restarted n =
    { v with record := { v.record with syncSent := satInc v.record.syncSent, syncTimer := .running n } } := by
  simp only [restarted, h]

theorem StreamView.restarted_ended (h : v.record.state = .closed ∨ v.record.state = .releasing) : v.restarted n = v := by
  rcases h with h | h <;> simp only [restarted, h]

theorem StreamView.restarted_rx (h : v.record.state.restarts = false) : (v.restarted n).rx = v.rx := by
  unfold restarted
  split <;> simp_all [StreamState.restarts]
end

/-- What a partner restart detected on a lane leaves, block by block; each stream shows its own restart alone. -/
structure RestartShows (l : LaneId) (epoch : Byte) (s t : State) : Prop where
  lm : t.lm = { ((s.heard l).restartBegun l epoch).lm with
    noticeQueue := (s.syncsOf (List.finRange 64)).take 32
    linkEvent := satInc s.lm.linkEvent }
  record : ∀ i, t.stream i = ((s.view i).restarted s.rp.config.syncInterval).record
  rx : ∀ i, t.rxs i = ((s.view i).restarted s.rp.config.syncInterval).rx
  emptied : ∀ i, ((s.view i).restarted s.rp.config.syncInterval).list = [] → (t.txs i).list = []
  kept : ∀ i, (s.stream i).state.restarts = false → t.txs i = { s.txs i with
    list := if s.lm.linkState = .down then (s.txs i).list.map SendEntry.resumeTimers else (s.txs i).list }
  contexts : t.re.contexts = s.re.contexts.filter fun c =>
    decide ((s.stream c.stream).state ≠ .opened ∧ (s.stream c.stream).state ≠ .draining)
  posts : FencesUnsettled s → Posts s t (s.restartPosts (List.finRange 64) s.ft)

theorem State.restartOn_shows {s : State} (he : s.hau.engine ≠ .halted) (l : LaneId) (epoch : Byte) :
    RestartShows l epoch s ((s.heard l).restartOn l epoch) := by
  obtain ⟨_, hup, hle, hq, _⟩ := restartBegun_lm (s := s) (l := l) (epoch := epoch)
  have hbv (i : StreamId) : ((s.heard l).restartBegun l epoch).view i = s.view i := view_congr rfl rfl rfl i
  have hlm := ((s.heard l).restartBegun l epoch).partnerRestart_lm hup hq
  have hview (i : StreamId) : ((s.heard l).restartBegun l epoch).partnerRestart.view i =
      (s.view i).restarted s.rp.config.syncInterval := by
    rw [partnerRestart_view, hbv]
    rfl
  have htxs (i : StreamId) (h : (s.stream i).state.restarts = false) :
      ((s.heard l).restartBegun l epoch).partnerRestart.txs i = s.txs i := partnerRestart_txs _ h
  have hctx := ((s.heard l).restartBegun l epoch).partnerRestart_contexts
  have hposts (h : FencesUnsettled s) : Posts s ((s.heard l).restartBegun l epoch).partnerRestart
      (s.restartPosts (List.finRange 64) s.ft) := by
    obtain ⟨hft, hcp, hhau⟩ := Posts.partnerRestart ((s.heard l).restartBegun l epoch) h
    rw [restartPosts_congr fun j _ => hbv j] at hft hcp hhau
    obtain ⟨hc, hh⟩ := withPosted_congr (s := s) (t := (s.heard l).restartBegun l epoch) rfl rfl
      (s.restartPosts (List.finRange 64) s.ft).1
    exact ⟨hft, hcp.trans hc, hhau.trans hh⟩
  have hu : ((s.heard l).restartBegun l epoch).partnerRestart.isHalted = false := by
    simp [isHalted, partnerRestart_engine, he]
  rw [restartOn_eq]
  generalize ((s.heard l).restartBegun l epoch).partnerRestart = u at *
  obtain ⟨tst, tre, tft, tcp, thau, tlm, ttxs⟩ := linkRestored_blocks hu ((s.heard l).lm.linkState = .down)
  generalize State.recordLinkChange _ = t at *
  refine ⟨?_, fun i => ?_, fun i => ?_, fun i h => ?_, fun i h => ?_, ?_, fun h => ?_⟩
  · rw [tlm, hlm, hle]
    rfl
  · rw [← stream_of_view (hview i), stream, tst]
    rfl
  · rw [← rxs_of_view (hview i), rxs, tre]
    rfl
  · have hl : (u.txs i).list = [] := (list_of_view (hview i)).trans h
    rw [ttxs i, hl]
    simp
  · rw [ttxs i, htxs i h]
    rfl
  · rw [tre, hctx]
    rfl
  · obtain ⟨hft, hcp, hhau⟩ := hposts h
    exact ⟨tft.trans hft, tcp.trans hcp, thau.trans hhau⟩

/-- Settles O41: each of the 64 streams is acted on once and shows its own restart alone (`partnerRestart_view`), and
contexts, notice queue and postings follow by induction on the streams (`restartOn_shows`). -/
theorem restartFaultsStreams : Obligations.RestartFaultsStreams := by
  intro s l role epoch he hz hal hrole hp hne
  obtain ⟨_, _, _, _, hself, hothers⟩ := State.restartBegun_lm (s := s) (l := l) (epoch := epoch)
  refine ⟨_, exec_alignReceived_restart he hz hal hrole hp hne, ?_⟩
  have hshows := State.restartOn_shows he l epoch
  generalize (s.heard l).restartOn l epoch = t at *
  have hlane (k : LaneId) : t.lane k = ((s.heard l).restartBegun l epoch).lane k := by
    simp only [State.lane, hshows.lm]
  refine ⟨by rw [hshows.lm]; rfl, by rw [hshows.lm]; rfl, by rw [hshows.lm], (hlane l).trans hself,
    fun k hk => (hlane k).trans (hothers k hk), by rw [hshows.lm]; rfl, fun i => ?_, fun c hc => ?_, hshows.contexts,
    fun i => ?_, hshows.posts⟩
  · refine ⟨fun h => ?_, fun h => ?_, fun h => ?_, fun h => ?_, fun h => ?_⟩
    · have hv := StreamView.restarted_opened (n := s.rp.config.syncInterval) (v := s.view i) h
      exact ⟨hshows.emptied i (congrArg StreamView.list hv), (hshows.record i).trans (congrArg StreamView.record hv)⟩
    · have hv := StreamView.restarted_draining (n := s.rp.config.syncInterval) (v := s.view i) h
      refine ⟨hshows.emptied i (congrArg StreamView.list hv), by rw [hshows.rx, hv], ?_⟩
      rw [hshows.record, hshows.rx, hv]
      dsimp only
      split
      · exact ⟨rfl, rfl, rfl⟩
      · exact ⟨rfl, rfl, rfl⟩
    · exact (hshows.record i).trans (congrArg StreamView.record (StreamView.restarted_faulted h))
    · exact (hshows.record i).trans (congrArg StreamView.record (StreamView.restarted_opening h))
    · exact (hshows.record i).trans (congrArg StreamView.record (StreamView.restarted_ended h))
  · rw [hshows.contexts] at hc
    simpa using (List.mem_filter.mp hc).2
  · refine ⟨fun h => ?_, fun h => ?_, fun ho hd => ?_⟩
    · rw [hshows.rx, StreamView.restarted_opened h]
      exact ⟨rfl, rfl⟩
    · rw [hshows.rx, StreamView.restarted_draining h]
      rfl
    · have hn : (s.stream i).state.restarts = false := by simp [StreamState.restarts, ho, hd]
      refine ⟨hshows.kept i hn, ?_⟩
      rw [hshows.rx, StreamView.restarted_rx hn]
      rfl

end Sys2Proof.Machine

namespace Sys2Proof.Machine

set_option Elab.async false -- one thread for each lemma would need more memory than the check allows

/-! ### What the laws of the transmit lists see of one stream

`TxView` is a stream as R27, R28, R30, R31 and R38 see it. `TxEffect` says that an event keeps the law of the list and
that of the entries' timers on one stream; `KeepsLists` says so of all streams. -/

/-- A stream with its transmit list and, for each slicer slot, the MSN of the entry of this stream that it holds. -/
structure TxView where
  state : StreamState
  tx : TxStream
  held : SlotId → Option Msn

/-- The MSN that a slot's work names on a stream. -/
def SlotWork.msnOn (i : StreamId) (w : SlotWork) : Option Msn := if w.stream = i then some w.msn else none

/-- Stream `i` of a state. -/
def State.txView (s : State) (i : StreamId) : TxView :=
  ⟨(s.stream i).state, s.txs i, fun k => (s.slot k).bind (SlotWork.msnOn i)⟩

/-- The law of one transmit list (R27, R28, R30, R31). -/
structure TxView.Lawful (v : TxView) : Prop where
  consecutive : v.tx.consecutive = true
  short : v.tx.list.length ≤ 32
  beyond : ∀ e ∈ v.tx.list.drop 8, e.state = .queued
  stands : v.tx.list = [] ∨ v.state = .opening ∨ v.state = .opened ∨ v.state = .draining
  opening : v.state = .opening → ∀ e ∈ v.tx.list, e.state = .queued
  sending : ∀ e ∈ v.tx.list, (e.state = .sending ↔ ∃ k, v.held k = some e.msn)
  listed : ∀ k m, v.held k = some m → m ∈ v.tx.list.map SendEntry.msn
  once : ∀ k l m, v.held k = some m → v.held l = some m → k = l

/-- The law of one entry's timers; `still` says that none may run (R38, R40, R50, R54). -/
structure SendEntry.Timed (still : Prop) (e : SendEntry) : Prop where
  ack : e.ackTimer ≠ .stopped → e.state = .awaiting
  holdoff : e.holdoffTimer ≠ .stopped → e.state = .held
  quiet : still → e.ackTimer.isRunning = false ∧ e.holdoffTimer.isRunning = false

/-- The timers of one transmit list. -/
def TxView.Timed (still : Prop) (v : TxView) : Prop := ∀ e ∈ v.tx.list, e.Timed still

/-- No timer of an entry may run (R50, R54). -/
def State.Still (s : State) : Prop := s.lm.linkState = .down ∨ s.hau.engine = .halted

theorem State.txView_held {s : State} {i : StreamId} {k : SlotId} {m : Msn} :
    (s.txView i).held k = some m ↔ ∃ w, s.slot k = some w ∧ w.stream = i ∧ w.msn = m := by
  simp [txView, SlotWork.msnOn, Option.bind_eq_some_iff]

/-- A slot holds the entry of a stream and MSN exactly when the view shows one (R31). -/
theorem State.slotWorkOf_isSome {s : State} {i : StreamId} {m : Msn} :
    (s.slotWorkOf i m).isSome = true ↔ ∃ k, (s.txView i).held k = some m := by
  simp only [txView_held, slotWorkOf, List.find?_isSome, List.mem_filterMap, id_eq, exists_eq_right,
    SlotWork.holds, decide_eq_true_eq]
  constructor
  · rintro ⟨w, hw, hs⟩
    obtain ⟨k, hk, hkw⟩ := List.getElem_of_mem hw
    simp only [Vector.length_toList] at hk
    exact ⟨⟨k, hk⟩, w, by simpa [slot] using hkw, hs⟩
  · rintro ⟨k, w, hk, hs⟩
    exact ⟨w, by rw [← hk]; simp [slot], hs⟩

theorem transmitListsLawful_iff (s : State) : TransmitListsLawful s ↔ ∀ i, (s.txView i).Lawful := by
  constructor
  · rintro ⟨hlists, hslots, honce⟩ i
    obtain ⟨hc, hn, hb, hs, ho, hm⟩ := hlists i
    refine ⟨hc, hn, hb, hs, ho, fun e he => (hm e he).trans State.slotWorkOf_isSome, fun k m h => ?_, fun k l m h h' => ?_⟩
    · obtain ⟨w, hw, rfl, rfl⟩ := State.txView_held.mp h
      exact List.mem_of_elem_eq_true (hslots k w hw)
    · obtain ⟨w, hw, hi, hwm⟩ := State.txView_held.mp h
      obtain ⟨x, hx, hj, hxm⟩ := State.txView_held.mp h'
      by_contra hne
      exact honce k l w hw x hx hne ⟨hi.trans hj.symm, hwm.trans hxm.symm⟩
  · intro h
    refine ⟨fun i => ?_, fun k w hw => ?_, fun k l w hw x hx hne ⟨hi, hm⟩ => ?_⟩
    · obtain ⟨hc, hn, hb, hs, ho, hm, _, _⟩ := h i
      exact ⟨hc, hn, hb, hs, ho, fun e he => (hm e he).trans State.slotWorkOf_isSome.symm⟩
    · exact List.elem_eq_true_of_mem ((h w.stream).listed k w.msn (State.txView_held.mpr ⟨w, hw, rfl, rfl⟩))
    · exact hne ((h w.stream).once k l w.msn (State.txView_held.mpr ⟨w, hw, rfl, rfl⟩)
        (State.txView_held.mpr ⟨x, hx, hi.symm, hm.symm⟩))

theorem entryTimersLawful_iff (s : State) : EntryTimersLawful s ↔ ∀ i, (s.txView i).Timed s.Still :=
  forall_congr' fun _ => forall₂_congr fun _ _ => ⟨fun ⟨h1, h2, h3⟩ => ⟨h1, h2, h3⟩, fun ⟨h1, h2, h3⟩ => ⟨h1, h2, h3⟩⟩

/-! ### What keeps both laws on one stream -/

/-- A change of one stream that keeps the law of its list and, given `c`, of its timers; `p` and `p'` say whether the
timers may not run before and after. -/
structure TxEffect (c p p' : Prop) (v w : TxView) : Prop where
  lawful : v.Lawful → w.Lawful
  timed : c → v.Lawful → v.Timed p → w.Timed p'

section
variable {c p p' p'' : Prop} {u v w : TxView}

theorem TxEffect.trans (h : TxEffect c p p' u v) (h' : TxEffect c p' p'' v w) : TxEffect c p p'' u w :=
  ⟨h'.lawful ∘ h.lawful, fun hc hl ht => h'.timed hc (h.lawful hl) (h.timed hc hl ht)⟩

theorem TxEffect.of_lawful (h : v.Lawful → TxEffect c p p' v w) : TxEffect c p p' v w :=
  ⟨fun hl => (h hl).lawful hl, fun hc hl => (h hl).timed hc hl⟩

theorem SendEntry.Timed.mono {e : SendEntry} (h : e.Timed p) (hp : p' → p) : e.Timed p' :=
  ⟨h.ack, h.holdoff, h.quiet ∘ hp⟩

theorem TxView.Timed.mono (h : v.Timed p) (hp : p' → p) : v.Timed p' := fun e he => (h e he).mono hp

/-- An entry whose timers are stopped. -/
theorem SendEntry.Timed.of_stopped {e : SendEntry} (ha : e.ackTimer = .stopped) (hh : e.holdoffTimer = .stopped) :
    e.Timed p := ⟨fun h => absurd ha h, fun h => absurd hh h, fun _ => by rw [ha, hh]; exact ⟨rfl, rfl⟩⟩

theorem TxEffect.refl (hp : p' → p) (v : TxView) : TxEffect c p p' v v := ⟨id, fun _ _ ht => ht.mono hp⟩

/-- A slot that holds an entry holds one of the list, so an empty list leaves every slot to others. -/
theorem TxView.Lawful.held_none (h : v.Lawful) (hl : v.tx.list = []) (k : SlotId) : v.held k = none := by
  by_contra hn
  obtain ⟨m, hm⟩ := Option.ne_none_iff_exists'.mp hn
  simpa [hl] using h.listed k m hm

/-- Nothing is asked of a stream with no entries. -/
theorem TxView.Lawful.of_empty (hl : v.tx.list = []) (hh : ∀ k, v.held k = none) : v.Lawful where
  consecutive := by simp [TxStream.consecutive, hl]
  short := by simp [hl]
  beyond := by simp [hl]
  stands := .inl hl
  opening := by simp [hl]
  sending := by simp [hl]
  listed := by simp [hh]
  once := by simp [hh]

theorem TxView.Timed.of_empty (hl : v.tx.list = []) : v.Timed p := by simp [TxView.Timed, hl]

/-- The list is emptied and the stream's slots freed (R49). -/
theorem TxEffect.cleared (hl : w.tx.list = []) (hh : ∀ k, w.held k = none) : TxEffect c p p' v w :=
  ⟨fun _ => .of_empty hl hh, fun _ _ _ => .of_empty hl⟩

/-- The stream changes its state, and a stream without entries its next MSN: no entry may be left where none may be,
and none but QUEUED ones where the stream becomes OPENING. -/
theorem TxEffect.restated (hl : w.tx.list = v.tx.list) (hh : w.held = v.held) (hp : p' → p)
    (hs : v.tx.list = [] ∨ w.tx.txNext = v.tx.txNext ∧
      (w.state = v.state ∨ w.state = .opened ∨ w.state = .draining)) : TxEffect c p p' v w := by
  refine ⟨fun h => ?_, fun _ _ ht e he => (ht e (hl ▸ he)).mono hp⟩
  by_cases he : v.tx.list = []
  · exact .of_empty (hl.trans he) fun k => by rw [hh]; exact h.held_none he k
  obtain ⟨hn, hs⟩ := hs.resolve_left he
  refine ⟨?_, hl ▸ h.short, hl ▸ h.beyond, ?_, fun ho => ?_, hl ▸ hh ▸ h.sending, hl ▸ hh ▸ h.listed, hh ▸ h.once⟩
  · have hc := h.consecutive
    unfold TxStream.consecutive at hc ⊢
    rwa [hl, hn]
  · rcases hs with hs | hs | hs
    · exact hl.symm ▸ hs.symm ▸ h.stands
    · exact .inr (.inr (.inl hs))
    · exact .inr (.inr (.inr hs))
  · rcases hs with hs | hs | hs
    · exact hl.symm ▸ h.opening (hs.symm.trans ho)
    · simp [hs] at ho
    · simp [hs] at ho

/-- A stream that may hold no entry holds none (R27). -/
theorem TxView.Lawful.list_nil (h : v.Lawful) (ho : v.state ≠ .opening) (hp : v.state ≠ .opened)
    (hd : v.state ≠ .draining) : v.tx.list = [] := by simpa [ho, hp, hd] using h.stands

/-- A list with the same MSNs, whose entries and slots agree again. -/
theorem TxView.Lawful.relisted (h : v.Lawful) (hmsn : w.tx.list.map SendEntry.msn = v.tx.list.map SendEntry.msn)
    (hn : w.tx.txNext = v.tx.txNext) (hs : w.state = v.state) (beyond : ∀ e ∈ w.tx.list.drop 8, e.state = .queued)
    (opening : v.state = .opening → ∀ e ∈ w.tx.list, e.state = .queued)
    (sending : ∀ e ∈ w.tx.list, (e.state = .sending ↔ ∃ k, w.held k = some e.msn))
    (listed : ∀ k m, w.held k = some m → m ∈ v.tx.list.map SendEntry.msn)
    (once : ∀ k l m, w.held k = some m → w.held l = some m → k = l) : w.Lawful := by
  have hlen : w.tx.list.length = v.tx.list.length := by simpa using congrArg List.length hmsn
  refine ⟨?_, hlen.symm ▸ h.short, beyond, ?_, hs ▸ opening, sending, hmsn ▸ listed, once⟩
  · have hc := h.consecutive
    unfold TxStream.consecutive at hc ⊢
    rwa [hmsn, hlen, hn]
  · rw [hs, ← List.length_eq_zero_iff, hlen, List.length_eq_zero_iff]
    exact h.stands

/-- Each entry changes by itself: its MSN stays, and it stays QUEUED if it was. -/
theorem TxView.Lawful.mapped {f : SendEntry → SendEntry} (h : v.Lawful) (hl : w.tx.list = v.tx.list.map f)
    (hn : w.tx.txNext = v.tx.txNext) (hs : w.state = v.state) (hm : ∀ e, (f e).msn = e.msn)
    (hq : ∀ e, e.state = .queued → (f e).state = .queued)
    (hf : ∀ e ∈ v.tx.list, ((f e).state = .sending ↔ ∃ k, w.held k = some e.msn))
    (hh : ∀ k m, w.held k = some m → v.held k = some m) : w.Lawful := by
  refine h.relisted ?_ hn hs (fun e he => ?_) (fun ho e he => ?_) (fun e he => ?_)
    (fun k m hk => h.listed k m (hh k m hk)) fun k l m hk hl => h.once k l m (hh k m hk) (hh l m hl)
  · rw [hl, List.map_map]
    exact List.map_congr_left fun e _ => hm e
  · rw [hl, ← List.map_drop] at he
    obtain ⟨d, hd, rfl⟩ := List.mem_map.mp he
    exact hq d (h.beyond d hd)
  · obtain ⟨d, hd, rfl⟩ := List.mem_map.mp (hl ▸ he)
    exact hq d (h.opening ho d hd)
  · obtain ⟨d, hd, rfl⟩ := List.mem_map.mp (hl ▸ he)
    rw [hm]
    exact hf d hd

/-- Entries whose states and MSNs stay, with other timers. -/
theorem TxEffect.mapped {f : SendEntry → SendEntry} (hl : w.tx.list = v.tx.list.map f)
    (hn : w.tx.txNext = v.tx.txNext) (hs : w.state = v.state) (hh : w.held = v.held) (hm : ∀ e, (f e).msn = e.msn)
    (hx : ∀ e, (f e).state = e.state) (ht : ∀ e, e.Timed p → (f e).Timed p') : TxEffect c p p' v w where
  lawful h := by
    refine h.mapped hl hn hs hm (fun e he => (hx e).trans he) (fun e he => ?_) fun _ _ hk => hh ▸ hk
    rw [hx, hh]
    exact h.sending e he
  timed _ _ h e he := by
    obtain ⟨d, hd, rfl⟩ := List.mem_map.mp (hl ▸ he)
    exact ht d (h d hd)

theorem Timer.isRunning_suspend (t : Timer) : t.suspend.isRunning = false := by cases t <;> rfl

theorem Timer.suspend_eq_stopped {t : Timer} : t.suspend = .stopped ↔ t = .stopped := by
  cases t <;> simp [Timer.suspend]

theorem Timer.resume_eq_stopped {t : Timer} : t.resume = .stopped ↔ t = .stopped := by
  cases t <;> simp [Timer.resume]

/-- Suspended timers are lawful whether timers may run or not (R50, R54). -/
theorem SendEntry.Timed.suspendTimers {e : SendEntry} (h : e.Timed p) : e.suspendTimers.Timed p' :=
  ⟨fun ha => h.ack (Timer.suspend_eq_stopped.not.mp ha), fun hh => h.holdoff (Timer.suspend_eq_stopped.not.mp hh),
    fun _ => ⟨Timer.isRunning_suspend _, Timer.isRunning_suspend _⟩⟩

/-- Resumed timers are lawful where timers may run (R51). -/
theorem SendEntry.Timed.resumeTimers {e : SendEntry} (h : e.Timed p) (hp : ¬p') : e.resumeTimers.Timed p' :=
  ⟨fun ha => h.ack (Timer.resume_eq_stopped.not.mp ha), fun hh => h.holdoff (Timer.resume_eq_stopped.not.mp hh),
    fun hn => absurd hn hp⟩

/-- The link goes DOWN: every slot is freed, the entries that slots held are QUEUED, and all timers are suspended
(R50). -/
theorem TxEffect.linkDown {held : Msn → Option SlotWork} (hl : w.tx.list = v.tx.list.map fun e => e.linkDown (held e.msn))
    (hn : w.tx.txNext = v.tx.txNext) (hs : w.state = v.state) (hh : ∀ k, w.held k = none)
    (hheld : ∀ m, (held m).isSome = true ↔ ∃ k, v.held k = some m) : TxEffect c p p' v w := by
  have state (e : SendEntry) : (e.linkDown (held e.msn)).state = if (held e.msn).isSome then .queued else e.state := by
    cases h : held e.msn <;> simp [SendEntry.linkDown, SendEntry.suspendTimers]
  have sending (h : v.Lawful) {e : SendEntry} (he : e ∈ v.tx.list) :
      e.state = .sending ↔ (held e.msn).isSome = true := (h.sending e he).trans (hheld _).symm
  refine ⟨fun h => ?_, fun _ h ht e he => ?_⟩
  · refine h.mapped hl hn hs (fun e => ?_) (fun e he => ?_) (fun e he => ?_) (by simp [hh])
    · cases held e.msn <;> rfl
    · rw [state, he, ite_self]
    · have hns : (e.linkDown (held e.msn)).state ≠ .sending := by
        rw [state]
        split
        · simp
        · next hk => exact fun hx => hk ((sending h he).mp hx)
      simp [hns, hh]
  · obtain ⟨d, hd, rfl⟩ := List.mem_map.mp (hl ▸ he)
    cases hk : held d.msn with
    | none => exact (ht d hd).suspendTimers
    | some x =>
      have hx : d.state = .sending := (sending h hd).mpr (by rw [hk]; rfl)
      have ha : d.ackTimer = .stopped := by
        by_contra hn
        simp [(ht d hd).ack hn] at hx
      have hb : d.holdoffTimer = .stopped := by
        by_contra hn
        simp [(ht d hd).holdoff hn] at hx
      exact .of_stopped (Timer.suspend_eq_stopped.mpr ha) (Timer.suspend_eq_stopped.mpr hb)

/-- No two entries of a list have the same MSN (R30). -/
theorem TxView.Lawful.msn_inj (h : v.Lawful) {k l : Nat} {d e : SendEntry} (hd : v.tx.list[k]? = some d)
    (he : v.tx.list[l]? = some e) (hm : d.msn = e.msn) : k = l := by
  obtain ⟨hk, rfl⟩ := List.getElem?_eq_some_iff.mp hd
  obtain ⟨hl, rfl⟩ := List.getElem?_eq_some_iff.mp he
  rw [← TxStream.position_msn h.consecutive h.short hk, hm, TxStream.position_msn h.consecutive h.short hl]

/-- An entry that is not QUEUED stands in the send window of a stream that is not OPENING (R28). -/
theorem TxView.Lawful.window (h : v.Lawful) {n : Nat} {e : SendEntry} (he : v.tx.list[n]? = some e)
    (hq : e.state ≠ .queued) : n < 8 ∧ v.state ≠ .opening := by
  obtain ⟨hn, hx⟩ := List.getElem?_eq_some_iff.mp he
  refine ⟨?_, fun ho => hq (h.opening ho e (List.mem_of_getElem? he))⟩
  by_contra h8
  refine hq (h.beyond e (List.mem_of_getElem? (i := n - 8) ?_))
  rw [List.getElem?_drop, Nat.add_sub_cancel' (by omega), he]

/-- One entry is replaced by one of the same MSN; the slots agree with its state again. -/
theorem TxEffect.replaced {n : Nat} {e e' : SendEntry} (he : v.tx.list[n]? = some e)
    (hl : w.tx.list = v.tx.list.set n e') (hn : w.tx.txNext = v.tx.txNext) (hs : w.state = v.state)
    (hm : e'.msn = e.msn) (hw : e'.state = .queued ∨ n < 8 ∧ v.state ≠ .opening)
    (hself : e'.state = .sending ↔ ∃ k, w.held k = some e.msn)
    (hother : ∀ k m, m ≠ e.msn → (w.held k = some m ↔ v.held k = some m))
    (honce : ∀ k l, w.held k = some e.msn → w.held l = some e.msn → k = l) (hp : p' → p)
    (ht : c → e.Timed p → e'.Timed p') : TxEffect c p p' v w := by
  have hin := List.mem_of_getElem? he
  refine ⟨fun h => ?_, fun hc _ h d hd => ?_⟩
  · refine h.relisted ?_ hn hs (fun d hd => ?_) (fun ho d hd => ?_) (fun d hd => ?_) (fun k m hk => ?_)
      fun k l m hk hl => ?_
    · rw [hl, List.map_set, hm]
      exact List.ext_getElem? fun j => by grind
    · rw [hl, List.drop_set] at hd
      split at hd
      · exact h.beyond d hd
      · next h8 =>
        rcases List.mem_or_eq_of_mem_set hd with hd | rfl
        · exact h.beyond d hd
        · exact hw.resolve_right fun hw => h8 hw.1
    · rcases List.mem_or_eq_of_mem_set (hl ▸ hd) with hd | rfl
      · exact h.opening ho d hd
      · exact hw.resolve_right fun hw => hw.2 ho
    · obtain ⟨j, hj⟩ := List.getElem?_of_mem (hl ▸ hd)
      rw [List.getElem?_set] at hj
      split at hj
      · split at hj
        · obtain rfl := Option.some.inj hj
          rw [hm]
          exact hself
        · cases hj
      · next hne =>
        have hmsn : d.msn ≠ e.msn := fun hmsn => hne (h.msn_inj he hj hmsn.symm)
        rw [h.sending d (List.mem_of_getElem? hj)]
        exact exists_congr fun k => (hother k _ hmsn).symm
    · by_cases hmsn : m = e.msn
      · exact hmsn ▸ List.mem_map_of_mem hin
      · exact h.listed k m ((hother k m hmsn).mp hk)
    · by_cases hmsn : m = e.msn
      · subst hmsn
        exact honce k l hk hl
      · exact h.once k l m ((hother k m hmsn).mp hk) ((hother l m hmsn).mp hl)
  · rcases List.mem_or_eq_of_mem_set (hl ▸ hd) with hd | rfl
    · exact (h d hd).mono hp
    · exact ht hc (h e hin)

/-- One entry is replaced by one that is not SENDING, and the slot that held it, if one did, is free. -/
theorem TxEffect.replaced_freed {n : Nat} {e e' : SendEntry} (he : v.tx.list[n]? = some e)
    (hl : w.tx.list = v.tx.list.set n e') (hn : w.tx.txNext = v.tx.txNext) (hs : w.state = v.state)
    (hm : e'.msn = e.msn) (hw : e'.state = .queued ∨ n < 8 ∧ v.state ≠ .opening) (hx : e'.state ≠ .sending)
    (hh : ∀ k m, w.held k = some m ↔ v.held k = some m ∧ m ≠ e.msn) (hp : p' → p)
    (ht : c → e.Timed p → e'.Timed p') : TxEffect c p p' v w :=
  .replaced he hl hn hs hm hw (by simp [hx, hh]) (by simp +contextual [hh]) (by simp [hh]) hp ht

/-- A SEND's entry joins the tail (R29). -/
theorem TxEffect.appended {e : SendEntry} (hl : w.tx.list = v.tx.list ++ [e]) (hlen : v.tx.list.length < 32)
    (hm : e.msn = v.tx.txNext) (hn : w.tx.txNext = v.tx.txNext + 1) (hs : w.state = v.state) (hh : w.held = v.held)
    (ho : v.state = .opening ∨ v.state = .opened) (hq : e.state = .queued) (ht : e.Timed p') (hp : p' → p) :
    TxEffect c p p' v w := by
  have mem {P : SendEntry → Prop} (h : ∀ d ∈ v.tx.list, P d) (he : P e) : ∀ d ∈ w.tx.list, P d := by
    intro d hd
    rw [hl, List.mem_append, List.mem_singleton] at hd
    exact hd.elim (h d) fun hd => hd ▸ he
  refine ⟨fun h => ?_, fun _ _ h => mem (fun d hd => (h d hd).mono hp) ht⟩
  have hmsns := of_decide_eq_true h.consecutive
  refine ⟨?_, by simp [hl]; omega, fun d hd => ?_, ?_, fun hop => mem (h.opening (hs ▸ hop)) hq, mem (hh ▸ h.sending) ?_,
    fun k m hk => ?_, hh ▸ h.once⟩
  · refine decide_eq_true ?_
    rw [hl, hn, List.map_append, List.length_append, List.length_singleton, List.range_succ, List.map_append]
    congr 1
    · rw [hmsns]
      refine List.map_congr_left fun k hk => ?_
      have hk := List.mem_range.mp hk
      apply BitVec.eq_of_toNat_eq
      have h1 : (1 : Msn).toNat = 1 := rfl
      simp only [BitVec.toNat_sub, BitVec.toNat_add, BitVec.toNat_ofNat, h1]
      omega
    · simp [hm]
  · rw [hl, List.drop_append] at hd
    rcases List.mem_append.mp hd with hd | hd
    · exact h.beyond d hd
    · exact List.mem_singleton.mp (List.mem_of_mem_drop hd) ▸ hq
  · rw [hs]
    exact .inr (ho.imp_right .inl)
  · refine iff_of_false (by simp [hq]) ?_
    rintro ⟨k, hk⟩
    have hk := h.listed k _ (hh ▸ hk)
    rw [hmsns, hm] at hk
    obtain ⟨j, hj, hjm⟩ := List.mem_map.mp hk
    have hj := List.mem_range.mp hj
    have := congrArg BitVec.toNat hjm
    have hx := v.tx.txNext.isLt
    simp only [BitVec.toNat_sub, BitVec.toNat_ofNat] at this
    omega
  · rw [hl, List.map_append]
    exact List.mem_append_left _ (h.listed k m (hh ▸ hk))

/-- The finished entries at the head leave the list (R46, R47). -/
theorem TxEffect.retired (hl : w.tx.list = v.tx.list.dropWhile SendEntry.finished) (hn : w.tx.txNext = v.tx.txNext)
    (hs : w.state = v.state) (hh : w.held = v.held) (hp : p' → p) : TxEffect c p p' v w := by
  have hsuffix : w.tx.list <:+ v.tx.list := hl ▸ List.dropWhile_suffix _
  obtain ⟨a, ha⟩ := hsuffix
  have hmem {d : SendEntry} (hd : d ∈ w.tx.list) : d ∈ v.tx.list := ha ▸ List.mem_append_right a hd
  refine ⟨fun h => ?_, fun _ _ h d hd => (h d (hmem hd)).mono hp⟩
  have hlen : v.tx.list.length = a.length + w.tx.list.length := by rw [← ha, List.length_append]
  refine ⟨?_, by have := h.short; omega, fun d hd => ?_, ?_, fun ho d hd => h.opening (hs ▸ ho) d (hmem hd),
    fun d hd => hh ▸ h.sending d (hmem hd), fun k m hk => ?_, hh ▸ h.once⟩
  · refine decide_eq_true (List.ext_getElem (by simp) fun k h1 h2 => ?_)
    have hk : k < w.tx.list.length := by simpa using h1
    have hm := TxStream.msn_getElem h.consecutive (k := a.length + k) (by omega)
    simp only [← ha, List.getElem_append_right (Nat.le_add_right _ _), Nat.add_sub_cancel_left] at hm
    simp only [List.getElem_map, List.getElem_range, hm, hn, List.length_append]
    congr 2
    omega
  · refine h.beyond d ?_
    rw [← ha, List.drop_append]
    exact List.mem_append_right _ (List.drop_subset_drop_left _ (Nat.sub_le 8 _) hd)
  · rcases h.stands with he | he
    · exact .inl (by simp [hl, he])
    · exact .inr (hs ▸ he)
  · rw [hh] at hk
    obtain ⟨d, hd, rfl⟩ := List.mem_map.mp (h.listed k m hk)
    have hx := (h.sending d hd).mpr ⟨k, hk⟩
    rw [← List.takeWhile_append_dropWhile (p := SendEntry.finished) (l := v.tx.list)] at hd
    rcases List.mem_append.mp hd with hd | hd
    · have := List.mem_takeWhile_imp hd
      simp [SendEntry.finished, hx] at this
    · exact List.mem_map_of_mem (hl ▸ hd)

end
end Sys2Proof.Machine

namespace Sys2Proof.Machine

set_option Elab.async false -- one thread for each lemma would need more memory than the check allows

/-! ### The limits, block by block

Each relation says that what keeps its limits in a block before an event keeps them after it. -/

/-- The read tracker and the write queue (R180, R183). -/
structure HostFits (a b : HostAccess) : Prop where
  tracker : a.tracker.length ≤ 8 → b.tracker.length ≤ 8
  writeQueue : a.writeQueue.length ≤ 16 → b.writeQueue.length ≤ 16

/-- The notice queue and the lanes' queues (R108, R109). -/
structure LinkFits (a b : LinkManager) : Prop where
  notices : a.noticeQueue.length ≤ 32 → b.noticeQueue.length ≤ 32
  lanes : ∀ l : LaneId, a.lanes[l].txQueue.length ≤ 4 → b.lanes[l].txQueue.length ≤ 4

/-- The buffer entries that one stream's lists hold. -/
def RxStream.buffers (r : RxStream) : Nat := r.bufferList.length + r.releaseList.length

/-- The buffer entries in use (R56). -/
def ReceiveEngine.inUse (a : ReceiveEngine) : Nat := (a.rx.toList.map RxStream.buffers).sum + a.contexts.length

theorem State.buffersInUse_eq (s : State) : s.buffersInUse = s.re.inUse := rfl

/-- The contexts, the buffer lists and the buffer table (R56, R58, R70). -/
structure ReceiveFits (a b : ReceiveEngine) : Prop where
  contexts : a.contexts.length ≤ 128 → b.contexts.length ≤ 128
  buffers : ∀ i : StreamId, a.rx[i].bufferList.length ≤ 16 → b.rx[i].bufferList.length ≤ 16
  inUse : a.inUse ≤ 512 → b.inUse ≤ 512

/-- The transmit lists and the send pool (R26, R27). -/
structure TransmitFits (a b : Vector TxStream 64) : Prop where
  lists : ∀ i : StreamId, a[i].list.length ≤ 32 → b[i].list.length ≤ 32
  pool : (a.toList.map fun t => t.list.length).sum ≤ 256 → (b.toList.map fun t => t.list.length).sum ≤ 256

/-- Every limit that holds before an event holds after it. -/
structure Fits (s t : State) : Prop where
  host : HostFits s.hau t.hau
  link : LinkFits s.lm t.lm
  fences : s.ft.length ≤ 4 → t.ft.length ≤ 4
  receive : ReceiveFits s.re t.re
  transmit : TransmitFits s.te.tx t.te.tx

theorem HostFits.refl (a : HostAccess) : HostFits a a := ⟨id, id⟩
theorem LinkFits.refl (a : LinkManager) : LinkFits a a := ⟨id, fun _ => id⟩
theorem ReceiveFits.refl (a : ReceiveEngine) : ReceiveFits a a := ⟨id, fun _ => id, id⟩
theorem TransmitFits.refl (a : Vector TxStream 64) : TransmitFits a a := ⟨fun _ => id, id⟩

theorem Fits.refl (s : State) : Fits s s := ⟨.refl _, .refl _, id, .refl _, .refl _⟩

theorem Fits.trans {s t u : State} (h : Fits s t) (h' : Fits t u) : Fits s u where
  host := ⟨h'.host.tracker ∘ h.host.tracker, h'.host.writeQueue ∘ h.host.writeQueue⟩
  link := ⟨h'.link.notices ∘ h.link.notices, fun l => h'.link.lanes l ∘ h.link.lanes l⟩
  fences := h'.fences ∘ h.fences
  receive := ⟨h'.receive.contexts ∘ h.receive.contexts, fun i => h'.receive.buffers i ∘ h.receive.buffers i,
    h'.receive.inUse ∘ h.receive.inUse⟩
  transmit := ⟨fun i => h'.transmit.lists i ∘ h.transmit.lists i, h'.transmit.pool ∘ h.transmit.pool⟩

/-- A host access unit with no more reads and writes than before. -/
theorem HostFits.of_le {a b : HostAccess} (ht : b.tracker.length ≤ a.tracker.length)
    (hw : b.writeQueue.length ≤ a.writeQueue.length) : HostFits a b := ⟨ht.trans, hw.trans⟩

/-- Another lane controller with no more units. -/
theorem LinkFits.setLane {a : LinkManager} {l : LaneId} {r : Lane} (h : a.lanes[l].txQueue.length ≤ 4 → r.txQueue.length ≤ 4) :
    LinkFits a { a with lanes := a.lanes.set l r } := by
  refine ⟨id, fun k hk => ?_⟩
  by_cases hkl : l = k
  · subst hkl
    simpa using h hk
  · have hne : l.val ≠ k.val := fun e => hkl (Fin.ext e)
    simpa [Vector.getElem_set_ne _ _ hne] using hk

/-- Another set of lists for one stream, with the contexts that go with it. -/
theorem ReceiveFits.set {a b : ReceiveEngine} {i : StreamId} {r : RxStream} (hrx : b.rx = a.rx.set i r)
    (hb : a.rx[i].bufferList.length ≤ 16 → r.bufferList.length ≤ 16)
    (hc : a.contexts.length ≤ 128 → b.contexts.length ≤ 128)
    (hsum : a.inUse ≤ 512 → a.inUse + b.contexts.length + r.buffers ≤ 512 + a.contexts.length + a.rx[i].buffers) :
    ReceiveFits a b := by
  have hset := sum_map_set a.rx RxStream.buffers i r
  refine ⟨hc, fun k hk => ?_, fun h => ?_⟩
  · rw [hrx]
    by_cases hik : i = k
    · subst hik
      simpa using hb hk
    · have hne : i.val ≠ k.val := fun e => hik (Fin.ext e)
      simpa [Vector.getElem_set_ne _ _ hne] using hk
  · have hsum := hsum h
    unfold ReceiveEngine.inUse at h hsum ⊢
    rw [hrx]
    omega

/-- No more entries in use than before. -/
theorem ReceiveFits.of_set {a b : ReceiveEngine} {i : StreamId} {r : RxStream} (hrx : b.rx = a.rx.set i r)
    (hb : r.bufferList.length ≤ a.rx[i].bufferList.length)
    (hc : b.contexts.length ≤ a.contexts.length ∨ b.contexts.length ≤ 128)
    (hsum : b.contexts.length + r.buffers ≤ a.contexts.length + a.rx[i].buffers) : ReceiveFits a b :=
  .set hrx hb.trans (fun h => hc.elim (·.trans h) id) fun h => by omega

/-- Other contexts, no more than before. -/
theorem ReceiveFits.of_contexts {a b : ReceiveEngine} (hrx : b.rx = a.rx)
    (hc : b.contexts.length ≤ a.contexts.length) : ReceiveFits a b := by
  refine ⟨hc.trans, fun k hk => hrx ▸ hk, fun h => ?_⟩
  unfold ReceiveEngine.inUse at h ⊢
  rw [hrx]
  omega

/-- Another list for one stream. -/
theorem TransmitFits.set {a : Vector TxStream 64} {i : StreamId} {x : TxStream}
    (hl : a[i].list.length ≤ 32 → x.list.length ≤ 32)
    (hp : (a.toList.map fun t => t.list.length).sum ≤ 256 →
      (a.toList.map fun t => t.list.length).sum + x.list.length ≤ 256 + a[i].list.length) :
    TransmitFits a (a.set i x) := by
  have hset := sum_map_set a (fun t => t.list.length) i x
  refine ⟨fun k hk => ?_, fun h => by have := hp h; omega⟩
  by_cases hik : i = k
  · subst hik
    simpa using hl hk
  · have hne : i.val ≠ k.val := fun e => hik (Fin.ext e)
    simpa [Vector.getElem_set_ne _ _ hne] using hk

/-- A list no longer than before. -/
theorem TransmitFits.of_set {a : Vector TxStream 64} {i : StreamId} {x : TxStream}
    (h : x.list.length ≤ a[i].list.length) : TransmitFits a (a.set i x) := .set h.trans fun hp => by omega

/-- Lists of the same lengths. -/
theorem TransmitFits.of_lengths {a b : Vector TxStream 64} (h : ∀ i : StreamId, b[i].list.length = a[i].list.length) :
    TransmitFits a b :=
  ⟨fun i hi => (h i).symm ▸ hi, fun hp => sum_map_congr (f := fun t : TxStream => t.list.length) h ▸ hp⟩

/-! ### Events that keep the limits and the transmit lists -/

/-- An event that keeps every limit, and on every stream the law of the transmit list and, given `c`, that of its
timers. -/
structure Orderly (c : Prop) (s t : State) : Prop where
  fits : Fits s t
  lists : ∀ i, TxEffect c s.Still t.Still (s.txView i) (t.txView i)

section
variable {c : Prop} {s t u : State} {i j : StreamId}

theorem Orderly.refl (s : State) : Orderly c s s := ⟨.refl s, fun _ => .refl id _⟩

theorem Orderly.trans (h : Orderly c s t) (h' : Orderly c t u) : Orderly c s u :=
  ⟨h.fits.trans h'.fits, fun i => (h.lists i).trans (h'.lists i)⟩

theorem Orderly.ite {p : Prop} [Decidable p] {a b : State} (ha : p → Orderly c s a) (hb : ¬p → Orderly c s b) :
    Orderly c s (if p then a else b) := by
  split
  · next h => exact ha h
  · next h => exact hb h

/-- The view of a stream shows its state, the transmit lists and the slots. -/
theorem State.txView_congr (st : (t.stream i).state = (s.stream i).state) (tx : t.te.tx = s.te.tx)
    (slots : t.te.slots = s.te.slots) : t.txView i = s.txView i := by
  simp only [txView, st, txs, tx, slot, slots]

theorem State.still_congr (link : t.lm.linkState = s.lm.linkState) (engine : t.hau.engine = s.hau.engine)
    (h : t.Still) : s.Still := by rwa [Still, link, engine] at h

/-- The Transmit Engine, the states of the streams, the link state and the engine state stay. -/
theorem Orderly.of_fits (fits : Fits s t) (tx : t.te.tx = s.te.tx := by rfl) (slots : t.te.slots = s.te.slots := by rfl)
    (st : ∀ i, (t.stream i).state = (s.stream i).state := by exact fun _ => rfl)
    (link : t.lm.linkState = s.lm.linkState := by rfl) (engine : t.hau.engine = s.hau.engine := by rfl) :
    Orderly c s t :=
  ⟨fits, fun i => by rw [State.txView_congr (st i) tx slots]; exact .refl (State.still_congr link engine) _⟩

/-- Nothing that has a limit or that the laws of the lists read has changed. -/
theorem Orderly.of_blocks (tracker : t.hau.tracker.length ≤ s.hau.tracker.length := by exact le_rfl)
    (writeQueue : t.hau.writeQueue.length ≤ s.hau.writeQueue.length := by exact le_rfl)
    (engine : t.hau.engine = s.hau.engine := by rfl)
    (lm : t.lm.noticeQueue = s.lm.noticeQueue ∧ t.lm.lanes = s.lm.lanes ∧ t.lm.linkState = s.lm.linkState := by
      exact ⟨rfl, rfl, rfl⟩)
    (ft : t.ft.length ≤ s.ft.length := by exact le_rfl) (re : t.re = s.re := by rfl)
    (st : ∀ i, (t.stream i).state = (s.stream i).state := by exact fun _ => rfl)
    (te : t.te.tx = s.te.tx ∧ t.te.slots = s.te.slots := by exact ⟨rfl, rfl⟩) : Orderly c s t := by
  obtain ⟨notices, lanes, link⟩ := lm
  refine .of_fits ⟨.of_le tracker writeQueue, ?_, ft.trans, re ▸ .refl _, te.1 ▸ .refl _⟩ te.1 te.2 st link engine
  exact ⟨fun h => notices ▸ h, fun l h => lanes ▸ h⟩

/-! ### One stream at a time -/

theorem State.setTxs_txView_self (r : TxStream) : (s.setTxs i r).txView i = { s.txView i with tx := r } := by
  simp [txView]

theorem State.setTxs_txView_ne (r : TxStream) (h : j ≠ i) : (s.setTxs i r).txView j = s.txView j := by
  simp [txView, setTxs_txs_ne _ _ _ _ h]

theorem State.setStream_txView_self (r : StreamRecord) :
    (s.setStream i r).txView i = { s.txView i with state := r.state } := by
  simp [txView]

theorem State.setStream_txView_ne (r : StreamRecord) (h : j ≠ i) : (s.setStream i r).txView j = s.txView j := by
  simp [txView, setStream_stream_ne _ _ _ _ h]

/-- An event that changes one stream. -/
theorem Orderly.of_stream (i : StreamId) (fits : Fits s t) (self : TxEffect c s.Still t.Still (s.txView i) (t.txView i))
    (other : ∀ j, j ≠ i → t.txView j = s.txView j) (still : t.Still → s.Still) : Orderly c s t := by
  refine ⟨fits, fun j => ?_⟩
  by_cases hj : j = i
  · exact hj ▸ self
  · rw [other j hj]
    exact .refl still _

theorem Fits.setStream (r : StreamRecord) : Fits s (s.setStream i r) := ⟨.refl _, .refl _, id, .refl _, .refl _⟩

theorem Fits.setTxs {r : TxStream} (h : r.list.length ≤ (s.txs i).list.length) : Fits s (s.setTxs i r) :=
  ⟨.refl _, .refl _, id, .refl _, .of_set h⟩

theorem Orderly.setStream {r : StreamRecord} (h : r.state = (s.stream i).state) : Orderly c s (s.setStream i r) := by
  refine .of_stream i (.setStream r) ?_ (fun _ hj => State.setStream_txView_ne r hj) id
  rw [State.setStream_txView_self, h]
  exact .refl id _

/-- A stream that holds no entry, by its list or by its state. -/
def State.Vacant (s : State) (i : StreamId) : Prop :=
  (s.txs i).list = [] ∨
    (s.stream i).state ≠ .opening ∧ (s.stream i).state ≠ .opened ∧ (s.stream i).state ≠ .draining

theorem State.Vacant.list_nil (h : s.Vacant i) (hl : (s.txView i).Lawful) : (s.txs i).list = [] :=
  h.elim id fun ⟨ho, hp, hd⟩ => hl.list_nil ho hp hd

/-- A stream that holds no entry takes any state, and one with entries becomes OPEN or DRAINING. -/
theorem Orderly.restate {r : StreamRecord} (h : s.Vacant i ∨ r.state = .opened ∨ r.state = .draining) :
    Orderly c s (s.setStream i r) := by
  refine .of_stream i (.setStream r) ?_ (fun _ hj => State.setStream_txView_ne r hj) id
  rw [State.setStream_txView_self]
  exact .of_lawful fun hl => .restated rfl rfl id (h.imp (·.list_nil hl) fun h => ⟨rfl, .inr h⟩)

theorem Orderly.setRxs {r : RxStream} (hb : r.bufferList = (s.rxs i).bufferList)
    (hr : r.releaseList = (s.rxs i).releaseList) : Orderly c s (s.setRxs i r) := by
  have hsum : r.buffers = (s.rxs i).buffers := by rw [RxStream.buffers, RxStream.buffers, hb, hr]
  exact .of_fits ⟨.refl _, .refl _, id, .of_set rfl (hb ▸ le_rfl) (.inl le_rfl) (hsum ▸ le_rfl), .refl _⟩

/-- The counters of a stream's transmit side change (R52). -/
theorem Orderly.setTxs_counters {r : TxStream} (hl : r.list = (s.txs i).list) (hn : r.txNext = (s.txs i).txNext) :
    Orderly c s (s.setTxs i r) := by
  refine .of_stream i (.setTxs (hl ▸ le_rfl)) ?_ (fun _ hj => State.setTxs_txView_ne r hj) id
  rw [State.setTxs_txView_self]
  exact .restated hl rfl id (.inr ⟨hn, .inl rfl⟩)

theorem Orderly.setLane {l : LaneId} {r : Lane} (h : (s.lane l).txQueue.length ≤ 4 → r.txQueue.length ≤ 4) :
    Orderly c s (s.setLane l r) := .of_fits ⟨.refl _, .setLane h, id, .refl _, .refl _⟩

end

end Sys2Proof.Machine

namespace Sys2Proof.Machine

set_option Elab.async false -- one thread for each lemma would need more memory than the check allows

/-! ### What the slots hold for a stream -/

section
variable {s : State} {i j : StreamId} {m : Msn}

theorem State.freeSlotsOfStream_held (k : SlotId) : ((s.freeSlotsOfStream i).txView j).held k =
    if j = i then none else (s.txView j).held k := by
  have hk : (s.freeSlotsOfStream i).slot k = (s.slot k).bind fun w => if w.stream = i then none else some w := by
    simp [slot, freeSlotsOfStream]
  simp only [txView, hk]
  cases s.slot k with
  | none => simp
  | some w => grind [SlotWork.msnOn]

theorem State.freeSlotOf_held {k : SlotId} {m' : Msn} : ((s.freeSlotOf i m).txView j).held k = some m' ↔
    (s.txView j).held k = some m' ∧ ¬(j = i ∧ m' = m) := by
  have hk : (s.freeSlotOf i m).slot k = (s.slot k).bind fun w => if w.holds i m then none else some w := by
    simp [slot, freeSlotOf]
  simp only [txView_held, hk]
  cases s.slot k with
  | none => simp
  | some w => grind [SlotWork.holds]

theorem State.setSlot_held (k l : SlotId) (o : Option SlotWork) : ((s.setSlot k o).txView j).held l =
    if l = k then o.bind (SlotWork.msnOn j) else (s.txView j).held l := by
  by_cases h : l = k
  · subst h
    simp [txView]
  · simp [txView, h, setSlot_slot_ne _ _ _ _ h]

/-- Slots freed on one stream are not seen on another. -/
theorem State.freeSlotsOfStream_txView_ne (h : j ≠ i) : (s.freeSlotsOfStream i).txView j = s.txView j := by
  have hh : ((s.freeSlotsOfStream i).txView j).held = (s.txView j).held := funext fun k => by
    rw [freeSlotsOfStream_held, if_neg h]
  exact congrArg (TxView.mk _ _) hh

theorem State.freeSlotOf_txView_ne (h : j ≠ i) : (s.freeSlotOf i m).txView j = s.txView j := by
  have hh : ((s.freeSlotOf i m).txView j).held = (s.txView j).held := funext fun k => Option.ext fun m' => by
    rw [freeSlotOf_held]
    exact and_iff_left fun hc => h hc.1
  exact congrArg (TxView.mk _ _) hh

/-- A slot that changes its work for one stream alone. -/
theorem State.setSlot_txView_same {k : SlotId} {o : Option SlotWork}
    (h : o.bind (SlotWork.msnOn j) = (s.slot k).bind (SlotWork.msnOn j)) : (s.setSlot k o).txView j = s.txView j := by
  have hh : ((s.setSlot k o).txView j).held = (s.txView j).held := funext fun l => by
    rw [setSlot_held]
    split
    · next hl => exact h.trans (hl ▸ rfl)
    · rfl
  exact congrArg (TxView.mk _ _) hh

theorem State.failList_vacant (i : StreamId) (cause : ListFailure) (s : State) : (s.failList i cause).Vacant i :=
  .inl (list_of_view (s.failList_view_self i cause))

/-- A flush turns each of the stream's contexts into a release record (R88). -/
theorem State.flushed_length (s : State) (i : StreamId) (reason : ReturnReason) :
    (s.re.contexts.filter fun c => decide (c.stream ≠ i)).length + (s.flushed i reason).length =
      s.re.contexts.length := by
  have hready := List.length_eq_length_filter_add (l := s.contextsInOrder i) ReContext.ready
  have hall := List.length_eq_length_filter_add (l := s.re.contexts) fun c => decide (c.stream = i)
  have hsort : (s.contextsInOrder i).length = (s.contextsOf i).length := List.length_insertionSort _ _
  rw [contextsOf] at hsort
  simp only [flushed, List.length_append, List.length_map, decide_not, ne_eq]
  omega
end

namespace Orderly
variable {c : Prop} {s t u : State} {i j : StreamId}

/-! ### Postings, notices and retirement -/

theorem withPosted (cs : List Completion) (s : State) : Orderly c s (s.withPosted cs) :=
  .ite (fun _ => .refl s) fun _ => .of_blocks

theorem postReserved (x : Completion) (s : State) : Orderly c s (s.postReserved x) := by
  rw [State.postReserved_eq]
  exact withPosted _ s

theorem postRecord (x : Completion) (s : State) : Orderly c s (s.postRecord x) := by
  rw [State.postRecord_eq]
  exact .of_blocks

theorem postDone (kind : RequestKind) (i : StreamId) (tag : Tag) (x : Status) (b : DoneBody) (s : State) :
    Orderly c s (s.postDone kind i tag x b) := postReserved _ s

/-- The notice queue takes a notice only while it holds fewer than 32 (R125). -/
theorem produceNotice (n : Notice) (s : State) : Orderly c s (s.produceNotice n) := by
  rw [State.produceNotice_eq]
  refine .of_fits ⟨.refl _, ⟨fun h => ?_, fun _ => id⟩, id, .refl _, .refl _⟩
  dsimp only
  split
  · next hn => exact List.length_append ▸ hn.2
  · exact h

theorem reportRetirement (i : StreamId) (failed : Bool) (s : State) : Orderly c s (s.reportRetirement i failed) := by
  unfold State.reportRetirement
  rw [State.postFences_eq]
  refine .trans (.of_blocks (ft := ?_)) (withPosted _ _)
  rw [List.length_map]
  exact List.length_filter_le _ _

theorem retireAll (i : StreamId) (es : List SendEntry) (s : State) : Orderly c s (s.retireAll i es) := by
  unfold State.retireAll
  induction es generalizing s with
  | nil => exact .refl s
  | cons e es ih => exact ((postDone _ _ _ _ _ s).trans (reportRetirement _ _ _)).trans (ih _)

/-- The finished entries at the head leave the list and retire (R46, R47). -/
theorem retireHeads (i : StreamId) (s : State) : Orderly c s (s.retireHeads i) := by
  refine .trans (t := s.setList i ((s.txs i).list.dropWhile SendEntry.finished)) ?_ (retireAll _ _ _)
  refine .of_stream i (.setTxs (List.dropWhile_suffix _).length_le) ?_ (fun _ hj => State.setTxs_txView_ne _ hj) id
  rw [State.setList, State.setTxs_txView_self]
  exact .retired rfl rfl rfl rfl id


/-! ### The ends of lists and streams -/

/-- A list fails: it is emptied, its slots are freed and its entries retire (R49). -/
theorem failList (i : StreamId) (cause : ListFailure) (s : State) : Orderly c s (s.failList i cause) := by
  refine .trans (t := (s.freeSlotsOfStream i).setList i []) ?_ (retireAll _ _ _)
  refine .of_stream i ⟨.refl _, .refl _, id, .refl _, .of_set (Nat.zero_le _)⟩ ?_ (fun j hj => ?_) id
  · rw [State.setList, State.setTxs_txView_self]
    exact .cleared rfl fun k => (State.freeSlotsOfStream_held k).trans (if_pos rfl)
  · rw [State.setList, State.setTxs_txView_ne _ hj, State.freeSlotsOfStream_txView_ne hj]

/-- One stream's buffers move between its lists and contexts, or leave them. -/
theorem setBuffers {cs : List ReContext} {n : Nat} {r : RxStream}
    (hb : r.bufferList.length ≤ (s.rxs i).bufferList.length)
    (hc : cs.length ≤ s.re.contexts.length ∨ cs.length ≤ 128)
    (hsum : cs.length + r.buffers ≤ s.re.contexts.length + (s.rxs i).buffers) :
    Orderly c s (State.setRxs { s with re.contexts := cs, re.nextOccupancy := n } i r) :=
  .of_fits ⟨.refl _, .refl _, id, .of_set rfl hb hc hsum, .refl _⟩

/-- A flush moves the buffers of contexts to the release list (R88 to R90). -/
theorem flush (i : StreamId) (reason : ReturnReason) (s : State) : Orderly c s (s.flush i reason) := by
  have hsum : (s.re.contexts.filter fun c => decide (c.stream ≠ i)).length +
      RxStream.buffers { s.rxs i with releaseList := (s.rxs i).releaseList ++ s.flushed i reason } ≤
        s.re.contexts.length + (s.rxs i).buffers := by
    have hlen := s.flushed_length i reason
    simp only [RxStream.buffers, List.length_append]
    omega
  exact setBuffers (n := s.re.nextOccupancy) le_rfl (.inl (List.length_filter_le _ _)) hsum

theorem releaseBuffers (i : StreamId) (s : State) : Orderly c s (s.releaseBuffers i) := by
  have hsum : s.re.contexts.length + RxStream.buffers { s.rxs i with
      bufferList := [], releaseList := (s.rxs i).releaseList ++ s.listReturned i } ≤
        s.re.contexts.length + (s.rxs i).buffers := by
    simp only [RxStream.buffers, State.listReturned, List.length_append, List.length_map, List.length_nil]
    omega
  exact setBuffers (n := s.re.nextOccupancy) (Nat.zero_le _) (.inl le_rfl) hsum

theorem becomeClosed (h : s.Vacant i) : Orderly c s (s.becomeClosed i) := by
  unfold State.becomeClosed
  dsimp only
  rw [State.postCloses_eq]
  exact (restate (.inl h)).trans (withPosted _ _)

/-- A RELEASING stream holds no entry (R27). -/
theorem closeIfReleased (i : StreamId) (s : State) : Orderly c s (s.closeIfReleased i) :=
  .ite (fun h => becomeClosed (.inr (by simp [h.1]))) fun _ => .refl s

theorem enterReleasing (h : s.Vacant i) (cause : ReleaseCause) : Orderly c s (s.enterReleasing i cause) :=
  (restate (.inl h)).trans (closeIfReleased i _)

/-- A flush, the release of the buffer list and the entry to RELEASING (R14, R15, R20). -/
theorem endStream (h : s.Vacant i) (reason : ReturnReason) (cause : ReleaseCause) :
    Orderly c s (((s.flush i reason).releaseBuffers i).enterReleasing i cause) :=
  have hv : ((s.flush i reason).releaseBuffers i).Vacant i := h
  ((flush i reason s).trans (releaseBuffers i _)).trans (enterReleasing hv cause)

theorem endDrainIfEmpty (i : StreamId) (s : State) : Orderly c s (s.endDrainIfEmpty i) :=
  .ite (fun h => endStream (.inl h.2) _ _) fun _ => .refl s

theorem retire (i : StreamId) (s : State) : Orderly c s (s.retire i) :=
  .ite (fun _ => .refl s) fun _ => (retireHeads i s).trans (endDrainIfEmpty i _)

theorem recordEvent (i : StreamId) (k : EventKind) (g : Gen) (s : State) : Orderly c s (s.recordEvent i k g) :=
  .setStream rfl

/-- A list fails and its stream ends (R15, R16, R20). -/
theorem endFailed (i : StreamId) (cause : ListFailure) (reason : ReturnReason) (how : ReleaseCause) (s : State) :
    Orderly c s ((((s.failList i cause).flush i reason).releaseBuffers i).enterReleasing i how) :=
  (failList i cause s).trans (endStream (s.failList_vacant i cause) _ _)

theorem reportFault (i : StreamId) (f : FaultReport) (s : State) : Orderly c s (s.reportFault i f) := by
  unfold State.reportFault
  split
  · have hv : ((s.failList i f.failure).flush i f.reason).Vacant i := s.failList_vacant i _
    exact (((failList i _ s).trans (flush i _ _)).trans (restate (.inl hv))).trans (recordEvent _ _ _ _)
  · exact endFailed _ _ _ _ s
  · exact .refl s

theorem sendSync (i : StreamId) (s : State) : Orderly c s (s.sendSync i) := by
  refine .trans ?_ (produceNotice _ _)
  exact .setStream rfl

theorem restartStream (i : StreamId) (s : State) : Orderly c s (s.restartStream i) := by
  unfold State.restartStream
  split
  · exact reportFault _ _ s
  · exact reportFault _ _ s
  · exact recordEvent _ _ _ s
  · exact sendSync i s
  · exact .refl s
  · exact .refl s

theorem partnerRestart (s : State) : Orderly c s s.partnerRestart :=
  List.foldlRecOn (motive := fun u => Orderly c s u) _ State.restartStream (.refl s)
    fun u hu i _ => hu.trans (restartStream i u)

/-! ### Generations -/

theorem resetSequences (h : s.Vacant i) : Orderly c s (s.resetSequences i) := by
  refine .trans (t := s.setTxs i { s.txs i with txNext := 0 }) ?_ (.setRxs rfl rfl)
  refine .of_stream i (.setTxs le_rfl) ?_ (fun _ hj => State.setTxs_txView_ne _ hj) id
  rw [State.setTxs_txView_self]
  exact .of_lawful fun hl => .restated rfl rfl id (.inl (h.list_nil hl))

theorem finishOpen (i : StreamId) (x : Status) (s : State) : Orderly c s (s.finishOpen i x) := by
  unfold State.finishOpen
  dsimp only
  split
  · exact .refl s
  · refine .trans ?_ (postDone _ _ _ _ _ _)
    exact .setStream rfl

theorem resync (i : StreamId) (g : Gen) (s : State) : Orderly c s (s.resync i g) := by
  have hv : ((s.failList i .peerResync).flush i .streamResync).Vacant i := s.failList_vacant i _
  refine (((failList i .peerResync s).trans (flush i .streamResync _)).trans (resetSequences hv)).trans ?_
  refine .trans (.trans (.trans ?_ (produceNotice _ _)) (recordEvent _ _ _ _)) (endDrainIfEmpty i _)
  exact .setStream rfl

theorem adopt (i : StreamId) (g : Gen) (s : State) : Orderly c s (s.adopt i g) := by
  refine .trans (.trans ?_ (restate (.inr (.inl rfl)))) (finishOpen i _ _)
  refine .trans ?_ (produceNotice _ _)
  exact .setStream rfl

theorem syncArrives (i : StreamId) (g : Gen) (s : State) : Orderly c s (s.syncArrives i g) := by
  have opened : Orderly c s (s.syncOpened i g) := .ite (fun _ => produceNotice _ s) fun _ => resync i g s
  unfold State.syncArrives
  split
  · refine .ite (fun _ => produceNotice _ s) fun _ => ?_
    split
    · exact adopt i g s
    · exact sendSync i s
  · exact opened
  · exact opened
  · exact .refl s
  · exact .refl s
  · exact .refl s

theorem syncAckArrives (i : StreamId) (g : Gen) (s : State) : Orderly c s (s.syncAckArrives i g) :=
  .ite (fun _ => (restate (.inr (.inl rfl))).trans (finishOpen i _ _)) fun _ => .refl s

theorem syncExpiry (i : StreamId) (s : State) : Orderly c s (s.syncExpiry i) :=
  .ite (fun _ => .refl s) fun _ => .ite (fun _ => sendSync i s) fun _ => .refl s

end Orderly
end Sys2Proof.Machine

namespace Sys2Proof.Machine

set_option Elab.async false -- one thread for each lemma would need more memory than the check allows

/-! ### Entries and the slots that hold them -/

section
variable {s : State} {i : StreamId} {m : Msn}

theorem State.setEntry_txView_self (e : SendEntry) : (s.setEntry i m e).txView i =
    { s.txView i with tx := { s.txs i with list := (s.txs i).list.set ((s.txs i).position m) e } } :=
  setTxs_txView_self _

theorem State.setEntry_txView_ne (e : SendEntry) {j : StreamId} (h : j ≠ i) : (s.setEntry i m e).txView j = s.txView j :=
  setTxs_txView_ne _ h

theorem Fits.setEntry (e : SendEntry) : Fits s (s.setEntry i m e) := .setTxs (List.length_set).le

/-- An entry and a slot that change together, as their stream sees them. -/
theorem State.setEntry_setSlot_txView_self (e : SendEntry) (k : SlotId) (o : Option SlotWork) :
    ((s.setEntry i m e).setSlot k o).txView i = { s.txView i with
      tx := { s.txs i with list := (s.txs i).list.set ((s.txs i).position m) e }
      held := fun l => if l = k then o.bind (SlotWork.msnOn i) else (s.txView i).held l } := by
  have hv := setEntry_txView_self (s := s) (i := i) (m := m) e
  have hh : (((s.setEntry i m e).setSlot k o).txView i).held = fun l =>
      if l = k then o.bind (SlotWork.msnOn i) else (s.txView i).held l := funext fun l => setSlot_held k l o
  exact (congrArg (TxView.mk _ _) hh).trans (congrArg (TxView.mk _ · _) (congrArg TxView.tx hv))

/-- Another stream sees nothing of them. -/
theorem State.setEntry_setSlot_txView_ne (e : SendEntry) {k : SlotId} {o : Option SlotWork} {j : StreamId} (h : j ≠ i)
    (ho : o.bind (SlotWork.msnOn j) = (s.slot k).bind (SlotWork.msnOn j)) :
    ((s.setEntry i m e).setSlot k o).txView j = s.txView j := by
  rw [setSlot_txView_same (by exact ho), setEntry_txView_ne _ h]

theorem Fits.setEntry_setSlot (e : SendEntry) (k : SlotId) (o : Option SlotWork) :
    Fits s ((s.setEntry i m e).setSlot k o) := ⟨.refl _, .refl _, id, .refl _, .of_set (List.length_set).le⟩

/-- An entry that stays listed keeps its MSN free of any slot unless it is SENDING. -/
theorem TxView.Lawful.not_held {v : TxView} (h : v.Lawful) {n : Nat} {e : SendEntry} (he : v.tx.list[n]? = some e)
    (hx : e.state ≠ .sending) {k : SlotId} {m : Msn} (hk : v.held k = some m) : m ≠ e.msn := by
  rintro rfl
  exact hx ((h.sending e (List.mem_of_getElem? he)).mpr ⟨k, hk⟩)

/-- The checks of R41, read off the entry that a notice applies to. -/
theorem State.noticeEntry_some {g : Gen} {e : SendEntry} (h : s.noticeEntry i g m = some e) :
    ((s.stream i).state = .opened ∨ (s.stream i).state = .draining) ∧ (s.txs i).position m < 8 ∧
      (s.txs i).locate m = some e := by
  unfold State.noticeEntry at h
  split at h
  · next ha =>
    unfold TxStream.locateInWindow at h
    split at h
    · next hw => exact ⟨(of_decide_eq_true ha).1, hw, h⟩
    · cases h
  · cases h
end

namespace Orderly
variable {c : Prop} {s t u : State} {i j : StreamId} {m : Msn} {e e' : SendEntry}

/-- An entry outside every slot takes another state than SENDING. -/
theorem setEntry (he : (s.txs i).locate m = some e) (hm : e'.msn = e.msn) (hx : e.state ≠ .sending)
    (hx' : e'.state ≠ .sending) (hw : e'.state = .queued ∨ e.state ≠ .queued)
    (ht : e.Timed s.Still → e'.Timed s.Still) : Orderly c s (s.setEntry i m e') := by
  refine .of_stream i (.setEntry e') (.of_lawful fun hl => ?_) (fun _ hj => State.setEntry_txView_ne e' hj) id
  rw [State.setEntry_txView_self]
  exact .replaced_freed (v := s.txView i) he rfl rfl rfl hm (hw.imp_right fun h => hl.window he h) hx'
    (fun k m => ⟨fun hk => ⟨hk, hl.not_held he hx hk⟩, And.left⟩) id fun _ => ht

/-- An entry of the send window leaves the slot that holds it, if one does (R42 to R44). -/
theorem setEntry_freed (he : (s.txs i).locate m = some e) (hm : e'.msn = e.msn) (hx' : e'.state ≠ .sending)
    (hw : (s.txs i).position m < 8) (ho : (s.stream i).state ≠ .opening)
    (ht : c → e.Timed s.Still → e'.Timed s.Still) : Orderly c s ((s.freeSlotOf i e.msn).setEntry i m e') := by
  refine .of_stream i ⟨.refl _, .refl _, id, .refl _, .of_set (List.length_set).le⟩ ?_ (fun j hj => ?_) id
  · rw [State.setEntry_txView_self]
    exact .replaced_freed (v := s.txView i) he rfl rfl rfl hm (.inr ⟨hw, ho⟩) hx'
      (fun k m => State.freeSlotOf_held.trans (by simp)) id ht
  · rw [State.setEntry_txView_ne _ hj, State.freeSlotOf_txView_ne hj]

theorem applyOutcome (i : StreamId) (g : Gen) (m : Msn) {x : EntryState} (hx : x ≠ .sending) (s : State) :
    Orderly c s (s.applyOutcome i g m x) := by
  unfold State.applyOutcome
  split
  · exact .refl s
  · next e hn =>
    obtain ⟨hs, hw, he⟩ := State.noticeEntry_some hn
    refine .ite (fun _ => .refl s) fun _ => .trans (setEntry_freed he ?_ ?_ hw ?_ ?_) (retire i _)
    · rfl
    · exact hx
    · rcases hs with hs | hs <;> simp [hs]
    · exact fun _ _ => .of_stopped rfl rfl

theorem applyNotOpen (i : StreamId) (g : Gen) (m : Msn) (s : State) : Orderly c s (s.applyNotOpen i g m) :=
  .ite (fun _ => reportFault _ _ s) fun _ => .refl s

/-- A DEFER starts a holdoff timer, so timers must run where it is heard (R40, R43). -/
theorem applyDefer (i : StreamId) (g : Gen) (m : Msn) (a : Attempt) (hrun : c → ¬s.Still) :
    Orderly c s (s.applyDefer i g m a) := by
  unfold State.applyDefer
  split
  · exact .refl s
  · next e hn =>
    obtain ⟨hs, hw, he⟩ := State.noticeEntry_some hn
    refine .ite (fun _ => .trans (setEntry_freed he ?_ ?_ hw ?_ ?_) (.setTxs_counters ?_ ?_)) fun _ => .refl s
    · rfl
    · simp
    · rcases hs with hs | hs <;> simp [hs]
    · exact fun hc _ => ⟨fun h => absurd rfl h, fun _ => rfl, fun h => absurd h (hrun hc)⟩
    · rfl
    · rfl

theorem ackExpiry (i : StreamId) (m : Msn) (s : State) : Orderly c s (s.ackExpiry i m) := by
  refine .ite (fun _ => .refl s) fun _ => ?_
  split
  · exact .refl s
  · next e he =>
    refine .ite (fun h => ?_) fun _ => .refl s
    have holdoff (ht : e.Timed s.Still) : e.holdoffTimer = .stopped := by
      by_contra hn
      simpa [h.1] using ht.holdoff hn
    refine .ite (fun _ => .trans (setEntry he ?_ ?_ ?_ ?_ ?_) (reportFault i _ _)) fun _ =>
      .trans (setEntry he ?_ ?_ ?_ ?_ ?_) (.setTxs_counters ?_ ?_)
    · rfl
    · simp [h.1]
    · simp [h.1]
    · simp [h.1]
    · exact fun ht => .of_stopped rfl (holdoff ht)
    · rfl
    · simp [h.1]
    · simp
    · exact .inl rfl
    · exact fun ht => .of_stopped rfl (holdoff ht)
    · rfl
    · rfl

theorem holdoffExpiry (i : StreamId) (m : Msn) (s : State) : Orderly c s (s.holdoffExpiry i m) := by
  refine .ite (fun _ => .refl s) fun _ => ?_
  split
  · exact .refl s
  · next e he =>
    refine .ite (fun h => setEntry he ?_ ?_ ?_ ?_ ?_) fun _ => .refl s
    · rfl
    · simp [h.1]
    · simp
    · exact .inl rfl
    · refine fun ht => .of_stopped ?_ rfl
      by_contra hn
      simpa [h.1] using ht.ack hn

/-! ### The slicer -/

/-- A slot goes on with the entry it holds. -/
theorem setSlot {k : SlotId} {w w' : SlotWork} (hk : s.slot k = some w) (hs : w'.stream = w.stream)
    (hm : w'.msn = w.msn) : Orderly c s (s.setSlot k (some w')) := by
  have hv (j : StreamId) : (s.setSlot k (some w')).txView j = s.txView j :=
    State.setSlot_txView_same (by simp [hk, SlotWork.msnOn, hs, hm])
  exact ⟨⟨.refl _, .refl _, id, .refl _, .refl _⟩, fun j => by rw [hv j]; exact .refl id _⟩

/-- A slot takes a QUEUED entry of the send window of an OPEN or DRAINING stream (R32). -/
theorem fillSlot {k : SlotId} (hk : s.slot k = none) (he : s.eligibleEntry i = some e) :
    Orderly c s (s.fillSlot k i e) := by
  have hx : (s.txs i).oldestQueued = some e ∧ (s.stream i).state ≠ .opening := by
    unfold State.eligibleEntry at he
    split at he
    · next hs => exact ⟨he, by simp [hs]⟩
    · next hs => exact ⟨he, by simp [hs]⟩
    · cases he
  have hq : e.state = .queued := of_decide_eq_true (List.find?_some hx.1 :)
  obtain ⟨n, hn⟩ := List.getElem?_of_mem (List.mem_of_find?_eq_some hx.1)
  obtain ⟨hn8, he⟩ : n < 8 ∧ (s.txs i).list[n]? = some e := by
    rw [List.getElem?_take] at hn
    split at hn
    · exact ⟨‹_›, hn⟩
    · cases hn
  refine .trans (t := (s.setEntry i e.msn { e with state := .sending }).setSlot k (some (newWork i e s.te.nextOccupation)))
    ?_ .of_blocks
  refine .of_stream i (.setEntry_setSlot _ _ _) (.of_lawful fun hl => ?_) (fun j hj =>
    State.setEntry_setSlot_txView_ne _ hj (by simp [hk, SlotWork.msnOn, newWork, hj.symm])) id
  obtain ⟨hlen, hget⟩ := List.getElem?_eq_some_iff.mp he
  have hpos : (s.txs i).position e.msn = n := hget ▸ TxStream.position_msn hl.consecutive hl.short hlen
  have hfree (m : Msn) : (s.txView i).held k ≠ some m := by simp [State.txView, hk]
  have hnot (l : SlotId) : (s.txView i).held l ≠ some e.msn := fun hl' => hl.not_held he (by simp [hq]) hl' rfl
  rw [State.setEntry_setSlot_txView_self, hpos]
  refine .replaced (v := s.txView i) (e' := { e with state := .sending }) he rfl rfl rfl rfl (.inr ⟨hn8, hx.2⟩) ?_
    (fun l m hm => ?_) (fun l l' h h' => ?_) id fun _ ht => ?_
  · exact iff_of_true rfl ⟨k, by simp [SlotWork.msnOn, newWork]⟩
  · by_cases hlk : l = k
    · simp [hlk, hfree, SlotWork.msnOn, newWork, Ne.symm hm]
    · simp [hlk]
  · simp only [ite_eq_iff, hnot, and_false, or_false] at h h'
    exact h.1.trans h'.1.symm
  · refine .of_stopped ?_ ?_
    · by_contra hn
      simpa [hq] using ht.ack hn
    · by_contra hn
      simpa [hq] using ht.holdoff hn

theorem slotFill (s : State) : Orderly c s s.slotFill := by
  refine .ite (fun _ => ?_) fun _ => .refl s
  split
  · next k i hk _ =>
    split
    · next e he => exact fillSlot (by simpa using List.find?_some hk) he
    · exact .refl s
  · exact .refl s

theorem placeUnit {l : LaneId} (h : (s.lane l).hasRoom = true) (x : LinkUnit) : Orderly c s (s.placeUnit l x) := by
  have hroom : (s.lane l).txQueue.length < 4 := of_decide_eq_true h
  exact .trans (.setLane (r := { s.lane l with txQueue := (s.lane l).txQueue ++ [x] }) fun _ => by simpa using hroom) .of_blocks

/-- The last slice of an entry leaves its slot (R37). -/
theorem handLast {k : SlotId} {w : SlotWork} {n : Nat} (hk : s.slot k = some w) (he : s.slotEntry w = some e)
    (hrun : c → ¬s.Still) : Orderly c s ((s.setEntry w.stream w.msn
      { e with state := .awaiting, ackTimer := .running n }).setSlot k none) := by
  have he : (s.txs w.stream).list[(s.txs w.stream).position w.msn]? = some e := he
  have hheld (j : StreamId) : (s.slot k).bind (SlotWork.msnOn j) = if w.stream = j then some w.msn else none := by
    rw [hk]
    rfl
  refine .of_stream w.stream (.setEntry_setSlot _ _ _) (.of_lawful fun hl => ?_) (fun j hj =>
    State.setEntry_setSlot_txView_ne _ hj ((hheld j).trans (if_neg (Ne.symm hj))).symm) id
  have hmsn : e.msn = w.msn := TxStream.msn_of_locate hl.consecutive he
  have hself : (s.txView w.stream).held k = some e.msn := hmsn ▸ (hheld w.stream).trans (if_pos rfl)
  have hx : e.state = .sending := (hl.sending e (List.mem_of_getElem? he)).mpr ⟨k, hself⟩
  rw [State.setEntry_setSlot_txView_self]
  refine .replaced_freed (v := s.txView w.stream) (e' := { e with state := .awaiting, ackTimer := .running n }) he rfl rfl
    rfl rfl (.inr (hl.window he (by simp [hx]))) (by simp) (fun l m => ?_) id fun hc ht =>
      ⟨fun _ => rfl, fun hn => ?_, fun hs => absurd hs (hrun hc)⟩
  · by_cases hlk : l = k
    · simp +contextual [hlk, hself]
    · simp only [if_neg hlk]
      exact ⟨fun h => ⟨h, fun hm => hlk (hl.once l k _ (hm ▸ h) hself)⟩, And.left⟩
  · simpa [hx] using ht.holdoff hn

theorem acceptSlice {l : LaneId} {k : SlotId} {w : SlotWork} (data : List Byte) (hl : (s.lane l).hasRoom = true)
    (hk : s.slot k = some w) (he : s.slotEntry w = some e) (hrun : c → ¬s.Still) :
    Orderly c s (s.acceptSlice l k w e data) := by
  have placed := placeUnit (c := c) hl (.slice (s.sliceOf w e data))
  have counted (u : State) (n : BitVec 16) : Orderly c u { u.setTxs w.stream { u.txs w.stream with slicesSent := n } with
      te.offerPointer := k } := .trans (.setTxs_counters (r := { u.txs w.stream with slicesSent := n }) rfl rfl) .of_blocks
  refine .ite (fun _ => (placed.trans (counted _ _)).trans (handLast hk ?_ hrun)) fun _ =>
    (placed.trans (counted _ _)).trans (setSlot hk rfl rfl)
  have hlist : ∀ x, (((s.placeUnit l x).setTxs w.stream { (s.placeUnit l x).txs w.stream with
      slicesSent := satInc ((s.placeUnit l x).txs w.stream).slicesSent }).txs w.stream) =
        { s.txs w.stream with slicesSent := satInc (s.txs w.stream).slicesSent } := fun x => State.setTxs_txs_self _ _ _
  have := congrArg (fun t => TxStream.locate t w.msn) (hlist (.slice (s.sliceOf w e data)))
  exact this.trans he

end Orderly
end Sys2Proof.Machine

namespace Sys2Proof.Machine

set_option Elab.async false -- one thread for each lemma would need more memory than the check allows

/-- While a lane is UP and the engine is not HALTED, timers may run (R120, R123). -/
theorem HearsUp.not_still {s : State} {l : LaneId} (h : HearsUp s l) (ha : LinkAgrees s) : ¬s.Still := by
  obtain ⟨he, hl⟩ := h
  have hup : s.lm.linkState = .up := ha.mpr (s.anyLaneUp_iff.mpr ⟨l, hl⟩)
  simp [State.Still, he, hup]

theorem State.transmitLinkDown_txs (s : State) (i : StreamId) : s.transmitLinkDown.txs i =
    { s.txs i with list := (s.txs i).list.map fun e => e.linkDown (s.slotWorkOf i e.msn) } := by
  simp [transmitLinkDown, txs]

theorem State.transmitLinkDown_slot (s : State) (k : SlotId) : s.transmitLinkDown.slot k = none := by
  simp [transmitLinkDown, slot]

namespace Orderly
variable {c : Prop} {s t u : State} {i j : StreamId}

/-! ### Placements and reads -/

theorem placement (s : State) : Orderly (LinkAgrees s) s s.placement := by
  unfold State.placement
  split
  · exact .refl s
  · next hh =>
    split
    · exact .refl s
    · next l hl =>
      obtain ⟨hup, hroom⟩ : (s.lane l).state = .up ∧ (s.lane l).hasRoom = true := by
        simpa using List.find?_some hl
      split
      · next n rest hn =>
        have taken : Orderly (LinkAgrees s) s { s with lm.noticeQueue := rest } :=
          .of_fits ⟨.refl _, ⟨fun h => by rw [hn] at h; exact (Nat.le_succ _).trans h, fun _ => id⟩, id, .refl _, .refl _⟩
        exact taken.trans (placeUnit (by exact hroom) _)
      · split
        · exact .refl s
        · split
          · exact .refl s
          · next k _ w hk =>
            split
            · next e data he _ =>
              exact acceptSlice data hroom hk he (HearsUp.not_still ⟨by simpa [State.isHalted] using hh, hup⟩)
            · exact .refl s

theorem issueRead (hroom : s.trackerRoom = true) (o : ReadOwner) (a : HostAddr) (n : Nat) :
    Orderly c s (s.issueRead o a n) := by
  have hlen : s.hau.tracker.length < 8 := of_decide_eq_true hroom
  exact .of_fits ⟨⟨fun _ => by simpa [State.issueRead] using hlen, id⟩, .refl _, id, .refl _, .refl _⟩

theorem issueRecordRead (hroom : s.trackerRoom = true) : Orderly c s s.issueRecordRead :=
  .trans (issueRead hroom _ _ _) .of_blocks

theorem grantReservation (s : State) : Orderly c s s.grantReservation := by
  have reserved : Orderly c s { s with cp.reserved := s.cp.reserved + 1 } := .of_blocks
  exact .ite (fun h => reserved.trans (issueRecordRead h)) fun _ => .of_blocks

theorem sliceReadIssue (s : State) : Orderly c s s.sliceReadIssue := by
  refine .ite (fun hen => ?_) fun _ => .refl s
  have hroom : s.trackerRoom = true := by
    simp only [State.sliceReadEnabled, Bool.and_eq_true] at hen
    exact hen.1.1
  split
  · exact .refl s
  · next k _ =>
    split
    · exact .refl s
    · next w hk =>
      split
      · exact .refl s
      · next e _ =>
        have next_read : Orderly c s (s.setSlot k (some { w.fillPlace (.waiting w.nextRead) with
            nextRead := w.nextRead + 1 })) := by
          refine setSlot hk ?_ ?_ <;> (unfold SlotWork.fillPlace; dsimp only; split <;> rfl)
        exact .trans (t := { s.setSlot k (some { w.fillPlace (.waiting w.nextRead) with nextRead := w.nextRead + 1 }) with
          te.readPointer := k }) (next_read.trans .of_blocks) (issueRead (by exact hroom) _ _ _)

theorem dropRead (id : Nat) (s : State) : Orderly c s (s.dropRead id) :=
  .of_blocks (tracker := List.length_filter_le _ _)

theorem updateRead (id : Nat) (r : ReadEntry) (s : State) : Orderly c s (s.updateRead id r) :=
  .of_blocks (tracker := (List.length_map _).le)

theorem receiveSliceData (id : Nat) (data : List Byte) (s : State) : Orderly c s (s.receiveSliceData id data) := by
  unfold State.receiveSliceData
  split
  · exact .refl s
  · split
    · exact .refl s
    · refine .ite (fun _ => (dropRead id s).trans (.ite (fun _ => .refl _) fun _ => ?_)) fun _ => updateRead _ _ s
      split
      · exact .refl _
      · next hk => exact .ite (fun _ => setSlot hk rfl rfl) fun _ => .refl _

theorem judgeInterrupt (b : Bool) (s : State) : Orderly c s (State.judgeInterrupt b s) := by
  obtain ⟨o, ho⟩ := State.judgeInterrupt_eq b s
  rw [ho]
  exact .of_blocks

/-- A halt empties the queues and suspends the timers of every entry (R54, R131, R185). -/
theorem halt (cause : HaltCause) (a : HostAddr) (s : State) : Orderly c s (s.halt cause a) := by
  refine .trans ?_ (judgeInterrupt _ _)
  refine ⟨⟨.of_le (List.length_map _).le (Nat.zero_le _), ⟨fun _ => Nat.zero_le _, fun l _ => ?_⟩, id, .refl _,
    .of_lengths fun i => ?_⟩, fun i => ?_⟩
  · simp
  · simp
  · refine .mapped (f := SendEntry.suspendTimers) ?_ ?_ ?_ rfl (fun _ => rfl) (fun _ => rfl) fun _ => .suspendTimers
    · simp [State.txView, State.txs]
    · simp [State.txView, State.txs]
    · simp [State.txView, State.stream]

theorem readErrors (id : Nat) (s : State) : Orderly c s (s.readErrors id) := by
  refine .ite (fun _ => .refl s) fun _ => ?_
  split
  · exact .refl s
  · exact (dropRead id s).trans (halt _ _ _)

theorem readTimesOut (id : Nat) (s : State) : Orderly c s (s.readTimesOut id) := by
  refine .ite (fun _ => .refl s) fun _ => ?_
  split
  · exact .refl s
  · exact .ite (fun _ => halt _ _ s) fun _ => .refl s

/-! ### Lanes and the link -/

theorem recordLinkChange (s : State) : Orderly c s s.recordLinkChange := .of_blocks

/-- The Transmit Engine is told that the link is DOWN, in the event in which it goes DOWN (R50, R123). -/
theorem transmitLinkDown (fits : Fits s u) (te : u.te = s.te) (st : u.st = s.st) : Orderly c s u.transmitLinkDown := by
  have htxs (i : StreamId) : u.transmitLinkDown.txs i =
      { s.txs i with list := (s.txs i).list.map fun e => e.linkDown (s.slotWorkOf i e.msn) } := by
    rw [State.transmitLinkDown_txs, State.txs, State.txs, te]
    simp only [State.slotWorkOf, te]
  have hslot (k : SlotId) := u.transmitLinkDown_slot k
  obtain ⟨x, hx⟩ : ∃ x, u.transmitLinkDown = { u with te := x } := ⟨_, rfl⟩
  rw [hx] at htxs hslot ⊢
  have lengths : TransmitFits u.te.tx x.tx := .of_lengths fun i =>
    ((congrArg (fun t => t.list.length) (htxs i)).trans (List.length_map _)).trans (by rw [te]; rfl)
  refine ⟨fits.trans ⟨.refl _, .refl _, id, .refl _, lengths⟩, fun i => ?_⟩
  refine .linkDown (held := s.slotWorkOf i) (congrArg TxStream.list (htxs i)) ((congrArg TxStream.txNext (htxs i)).trans rfl) ?_
    (fun k => ?_) fun m => State.slotWorkOf_isSome
  · exact congrArg (fun v : Vector StreamRecord 64 => v[i].state) st
  · exact congrArg (fun o => o.bind (SlotWork.msnOn i)) (hslot k)

/-- While the link is UP and the engine not HALTED, resumed timers may run (R51). -/
theorem transmitLinkUp (h : s.lm.linkState = .up) : Orderly c s s.transmitLinkUp := by
  unfold State.transmitLinkUp
  refine .ite (fun _ => .refl s) fun hh => ?_
  have hrun : ¬s.Still := by simpa [State.Still, State.isHalted, h] using hh
  refine ⟨⟨.refl _, .refl _, id, .refl _, .of_lengths fun i => by simp⟩, fun i => ?_⟩
  refine .mapped (f := SendEntry.resumeTimers) ?_ ?_ rfl rfl (fun _ => rfl) (fun _ => rfl) fun _ ht => ht.resumeTimers hrun
  · simp [State.txView, State.txs]
  · simp [State.txView, State.txs]

/-- The link comes UP, which stops no timer. -/
theorem linkUp {lm : LinkManager} (hup : lm.linkState = .up) (fits : LinkFits s.lm lm) : Orderly c s { s with lm := lm } :=
  ⟨⟨.refl _, fits, id, .refl _, .refl _⟩, fun _ => .refl (fun h => .inr (h.resolve_left (by simp [hup]))) _⟩

theorem judgeLink (s : State) : Orderly c s s.judgeLink := by
  unfold State.judgeLink
  split
  · have up : Orderly c s { s with lm.linkState := .up } := linkUp rfl ⟨id, fun _ => id⟩
    exact (up.trans (transmitLinkUp rfl)).trans (recordLinkChange _)
  · have fits : Fits s { s with lm.linkState := .down, lm.noticeQueue := [] } :=
      ⟨.refl _, ⟨fun _ => Nat.zero_le _, fun _ => id⟩, id, .refl _, .refl _⟩
    exact (transmitLinkDown fits rfl rfl).trans (recordLinkChange _)
  · exact .refl s

theorem toSeeking (l : LaneId) (s : State) : Orderly c s (s.setLane l (s.lane l).toSeeking) :=
  .setLane fun _ => Nat.zero_le _

theorem seekLane (l : LaneId) (s : State) : Orderly c s (s.seekLane l) := (toSeeking l s).trans (judgeLink _)

theorem hearBad (l : LaneId) (s : State) : Orderly c s (s.hearBad l) := by
  unfold State.hearBad
  refine .ite (fun _ => .refl s) fun _ => ?_
  dsimp only
  split
  · exact .refl s
  · exact .setLane id
  · refine .ite (fun _ => .trans ?_ (seekLane l _)) fun _ => .setLane id
    exact .setLane id

theorem silence (l : LaneId) (s : State) : Orderly c s (s.silence l) :=
  .ite (fun _ => .refl s) fun _ => .ite (fun _ => seekLane l s) fun _ => .refl s

theorem hearGood (l : LaneId) (s : State) : Orderly c s (s.setLane l (s.lane l).hearGood) :=
  .setLane fun h => by unfold Lane.hearGood; split <;> exact h

/-- A good unit other than ALIGN moves its lane, or is passed on by an UP lane (R111, R113 to R115). -/
theorem hearUnit {act : State → State} {l : LaneId}
    (h : HearsUp s l → ∀ r, Orderly c (s.setLane l r) (act (s.setLane l r))) : Orderly c s (s.hearUnit l act) := by
  unfold State.hearUnit
  split
  · exact .refl s
  · next hh =>
    split
    · exact .refl s
    · refine .setLane fun h => ?_
      dsimp only
      unfold Lane.hearGood
      split <;> exact h
    · exact seekLane l s
    · next hup => exact (hearGood l s).trans (h ⟨by simpa [State.isHalted] using hh, hup⟩ _)

theorem restartBegun (l : LaneId) (epoch : Byte) (s : State) : Orderly c s (s.restartBegun l epoch) := by
  refine linkUp rfl ⟨fun _ => Nat.zero_le _, fun k hk => ?_⟩
  have hlane : (State.restartBegun l epoch s).lane k = (State.seekOthers l (State.setLane { s with lm.partnerEpoch := epoch } l
      { s.lane l with state := .up })).lane k := rfl
  have hset : ((State.setLane { s with lm.partnerEpoch := epoch } l { s.lane l with state := .up }).lane k).txQueue =
      (s.lane k).txQueue := by
    by_cases hkl : k = l
    · subst hkl
      rw [State.setLane_lane_self]
    · rw [State.setLane_lane_ne _ _ _ _ hkl]
      rfl
  change ((State.restartBegun l epoch s).lane k).txQueue.length ≤ 4
  rw [hlane, State.seekOthers_lane]
  split
  · exact Nat.zero_le _
  · rw [hset]
    exact hk

theorem restartOn (l : LaneId) (epoch : Byte) (s : State) : Orderly c s (s.restartOn l epoch) := by
  have told := (restartBegun (c := c) l epoch s).trans (partnerRestart _)
  have hup : (s.restartBegun l epoch).partnerRestart.lm.linkState = .up := by
    rw [State.partnerRestart_lm _ rfl rfl]
    rfl
  rw [State.restartOn_eq]
  exact .trans (.ite (fun _ => told.trans (transmitLinkUp hup)) fun _ => told) (recordLinkChange _)

theorem seekingAlign (l : LaneId) (role : Role) (s : State) : Orderly c s (s.seekingAlign l role) := by
  refine .ite (fun _ => ?_) fun _ => .ite (fun _ => ?_) fun _ => .setLane id
  · exact .trans (.setLane (l := l) (r := { s.lane l with validRun := 0 }) id) .of_blocks
  · exact .trans (.setLane (l := l) (r := { s.lane l with
      state := .aligned, validRun := 0, silenceTimer := .running Config.silenceLimit }) id) .of_blocks

theorem alignedAlign (l : LaneId) (role : Role) (epoch : Byte) (ready : Bool) (s : State) :
    Orderly c s (s.alignedAlign l role epoch ready) := by
  have clash : Orderly c s { s with lm.roleClash := true } := .of_blocks
  have agreed : Orderly c s { s with lm.partnerEpoch := epoch } := .of_blocks
  refine .ite (fun _ => clash.trans (seekLane l _)) fun _ => .ite (fun _ => ?_) fun _ => .refl s
  refine .ite (fun _ => (agreed.trans ?_).trans (judgeLink _)) fun _ => restartOn l epoch s
  exact .setLane id

theorem hearAlign (l : LaneId) (role : Role) (epoch : Byte) (ready : Bool) (s : State) :
    Orderly c s (s.hearAlign l role epoch ready) := by
  unfold State.hearAlign
  refine .ite (fun _ => .refl s) fun _ => ?_
  dsimp only
  split
  · exact .refl s
  · exact (hearGood l s).trans (seekingAlign l role _)
  · exact (hearGood l s).trans (alignedAlign l role epoch ready _)
  · exact .ite (fun _ => hearGood l s) fun _ => (hearGood l s).trans (seekLane l _)

theorem transmit (l : LaneId) (s : State) : Orderly c s (s.transmit l) := by
  unfold State.transmit
  split
  · exact .refl s
  · exact .of_blocks
  · exact .of_blocks
  · split
    · exact .of_blocks
    · next rest hq =>
      refine .trans (.setLane (r := { s.lane l with txQueue := rest }) fun h => ?_) .of_blocks
      rw [hq] at h
      exact (Nat.le_succ _).trans h

/-! ### The write queue -/

theorem backlogMove (s : State) : Orderly c s s.backlogMove := by
  unfold State.backlogMove
  split
  · exact .refl s
  · refine .ite (fun h => ?_) fun _ => .refl s
    have hroom : s.hau.writeQueue.length < 16 := of_decide_eq_true (Bool.and_eq_true_iff.mp h).1
    exact .of_fits ⟨⟨id, fun _ => by simpa using hroom⟩, .refl _, id, .refl _, .refl _⟩

/-- The head of the write queue departs. -/
theorem departs {w : HostWrite} {rest : List HostWrite} {o : Option Nat} (hq : s.hau.writeQueue = w :: rest) (x : Emission) :
    Orderly c s (State.emit { s with hau.writeQueue := rest, hau.interruptOwed := o } x) :=
  .of_blocks (writeQueue := by simp [hq])

theorem recordWriteDeparts (s : State) : Orderly c s s.recordWriteDeparts := by
  unfold State.recordWriteDeparts
  split
  · next hq => exact departs hq _
  · exact .refl s

theorem interruptMessage (msi : Bool) (s : State) : Orderly c s (s.interruptMessage msi) :=
  .ite (fun _ => .ite (fun _ => .of_blocks) fun _ => .of_blocks) fun _ => .refl s

end Orderly
end Sys2Proof.Machine

namespace Sys2Proof.Machine

set_option Elab.async false -- one thread for each lemma would need more memory than the check allows

/-- An accepted SEND found room in its list and in the pool (R29). -/
theorem State.sendRefusal_none_room {s : State} {i : StreamId} (h : s.sendRefusal i = none) :
    (s.txs i).list.length < 32 ∧ s.sendEntries < 256 := by
  unfold sendRefusal at h
  split at h <;> [cases h; skip]
  split at h <;> [cases h; skip]
  split at h <;> [cases h; skip]
  next hl hp => exact ⟨not_le.mp hl, not_le.mp hp⟩

/-- An accepted POST found room in its list and in the buffer table (R59). -/
theorem State.postRefusal_none_room {s : State} {i : StreamId} (h : s.postRefusal i = none) :
    (s.rxs i).bufferList.length < 16 ∧ s.buffersInUse < 512 := by
  unfold postRefusal at h
  split at h <;> [cases h; skip]
  split at h <;> [cases h; skip]
  split at h <;> [cases h; skip]
  next hl hp => exact ⟨not_le.mp hl, not_le.mp hp⟩

namespace Orderly
variable {c : Prop} {s t u : State} {i j : StreamId}

/-! ### The Receive Engine -/

theorem countStray (s : State) (i : StreamId) : Orderly c s (s.countStray i) := .setRxs rfl rfl

theorem setContext (x : ReContext) (s : State) : Orderly c s (s.setContext x) :=
  .of_fits ⟨.refl _, .refl _, id, .of_contexts rfl (List.length_map _).le, .refl _⟩

/-- A delivery moves the buffer of a context to the release list (R85). -/
theorem deliver {x : ReContext} (h : x ∈ s.re.contexts) : Orderly c s (s.deliver i x) := by
  have freed : (s.re.contexts.filter fun d => decide (d.occupancy ≠ x.occupancy)).length < s.re.contexts.length :=
    List.length_filter_lt_length_iff_exists.mpr ⟨x, h, by simp⟩
  have moved : Orderly c s (State.setRxs { s with
      re.contexts := s.re.contexts.filter fun d => decide (d.occupancy ≠ x.occupancy) } i { s.rxs i with
        releaseList := (s.rxs i).releaseList ++ [x.arrival (s.stream i).gen], rxExpected := (s.rxs i).rxExpected + 1 }) := by
    refine setBuffers (n := s.re.nextOccupancy) le_rfl (.inl freed.le) ?_
    have hr : (s.rxs i).buffers + 1 = RxStream.buffers { s.rxs i with
        releaseList := (s.rxs i).releaseList ++ [x.arrival (s.stream i).gen],
        rxExpected := (s.rxs i).rxExpected + 1 } := by
      simp only [RxStream.buffers, List.length_append, List.length_singleton, Nat.add_assoc]
    omega
  have result : s.deliver i x = State.setStream (State.setRxs { s with
      re.contexts := s.re.contexts.filter fun d => decide (d.occupancy ≠ x.occupancy) } i { s.rxs i with
        releaseList := (s.rxs i).releaseList ++ [x.arrival (s.stream i).gen],
        rxExpected := (s.rxs i).rxExpected + 1 }) i
      { s.stream i with history := pushHistory (s.stream i).history (x.msn, x.outcome) } := by
    simp [State.deliver, State.appendRelease, State.freeContext, State.setRxs, State.setStream, State.rxs, State.stream]
  rw [result]
  exact moved.trans (.setStream rfl)

theorem deliverUpTo (i : StreamId) (n : Nat) (s : State) : Orderly c s (s.deliverUpTo i n) := by
  induction n generalizing s with
  | zero => exact .refl s
  | succ n ih =>
    unfold State.deliverUpTo
    split
    · exact .refl s
    · next hx => exact (deliver (List.mem_of_find?_eq_some hx)).trans (ih _)

theorem deliveryCheck (i : StreamId) (s : State) : Orderly c s (s.deliveryCheck i) := deliverUpTo i _ s

/-- The write queue takes a data write only while it has room (R81, R183). -/
theorem writeSlice (hroom : s.writeRoom = true) (x : ReContext) (v : SliceUnit) : Orderly c s (s.writeSlice x v) := by
  have hlen : s.hau.writeQueue.length < 16 := of_decide_eq_true hroom
  refine (setContext (x.merged v) s).trans (.of_fits ⟨⟨id, fun _ => ?_⟩, .refl _, id, .refl _, .refl _⟩)
  change (s.hau.writeQueue ++ [_]).length ≤ 16
  simpa using hlen

theorem mergeSlice (x : ReContext) (v : SliceUnit) (s : State) : Orderly c s (s.mergeSlice x v) := by
  refine .ite (fun _ => .refl s) fun _ => .ite (fun _ => countStray s _) fun _ => .ite (fun _ => ?_) fun _ =>
    .ite (fun h => writeSlice h x v) fun _ => .refl s
  have refused : Orderly c s ((s.setContext { x with state := .oversize }).produceNotice
    (.reject x.stream (s.stream x.stream).gen x.msn .tooLong)) := (setContext _ s).trans (produceNotice _ _)
  exact .ite (fun _ => refused.trans (deliveryCheck _ _)) fun _ => refused

theorem deferSlice (v : SliceUnit) (reason : DeferReason) (s : State) : Orderly c s (s.deferSlice v reason) := by
  have noted (u : State) (i : StreamId) (n : Option (Msn × Attempt)) :
    Orderly c u (u.setStream i { u.stream i with deferralNote := n }) := .setStream rfl
  have counted (u : State) (i : StreamId) (n : BitVec 16) : Orderly c u (u.setRxs i { u.rxs i with defersSent := n }) :=
    .setRxs rfl rfl
  exact .ite (fun _ => .refl s) fun _ => ((produceNotice _ s).trans (noted _ _ _)).trans (counted _ _ _)

/-- The head buffer of a stream moves into a new context, if one is left (R60, R70, R77). -/
theorem bindSlice {v : SliceUnit} {b : Buffer} {rest : List Buffer} (hb : (s.rxs v.stream).bufferList = b :: rest)
    (hroom : s.re.contexts.length < 128) : Orderly c s (s.bindSlice v b rest) := by
  have bound : Orderly c s (State.setRxs { s with
      re.contexts := s.re.contexts ++ [newContext v.stream v.msn b s.re.nextOccupancy]
      re.nextOccupancy := s.re.nextOccupancy + 1 } v.stream { s.rxs v.stream with bufferList := rest }) := by
    have hlen : (s.rxs v.stream).bufferList.length = rest.length + 1 := by rw [hb, List.length_cons]
    refine setBuffers (by simp [hlen]) (.inr (by simpa using hroom)) ?_
    simp only [RxStream.buffers, List.length_append, List.length_singleton, hlen]
    omega
  exact bound.trans (mergeSlice _ v _)

theorem newMessage (v : SliceUnit) (s : State) : Orderly c s (s.newMessage v) := by
  unfold State.newMessage
  split
  · exact deferSlice v _ s
  · next b rest hb => exact .ite (fun h => bindSlice hb h) fun _ => deferSlice v _ s

theorem sliceForContext (x : ReContext) (v : SliceUnit) (s : State) : Orderly c s (s.sliceForContext x v) := by
  unfold State.sliceForContext
  split
  · exact mergeSlice x v s
  · exact .refl s
  · exact produceNotice _ s
  · exact produceNotice _ s

theorem behindWindow (v : SliceUnit) (s : State) : Orderly c s (s.behindWindow v) := by
  unfold State.behindWindow
  split
  · exact produceNotice _ s
  · exact produceNotice _ s
  · exact countStray s _

theorem sliceOnOpen (v : SliceUnit) (s : State) : Orderly c s (s.sliceOnOpen v) := by
  refine .ite (fun _ => .ite (fun _ => ?_) fun _ => .ite (fun _ => behindWindow v s) fun _ => countStray s _) fun _ =>
    countStray s _
  split
  · exact sliceForContext _ v s
  · exact newMessage v s

theorem sliceArrives (v : SliceUnit) (s : State) : Orderly c s (s.sliceArrives v) := by
  refine .ite (fun _ => ?_) fun _ => countStray s _
  split
  · exact produceNotice _ s
  · exact produceNotice _ s
  · exact produceNotice _ s
  · exact .refl s
  · exact sliceOnOpen v s
  · exact sliceOnOpen v s

theorem writeDeparted (x : ReContext) (s : State) : Orderly c s (s.writeDeparted x) := by
  refine .ite (fun _ => ?_) fun _ => setContext _ s
  split
  · exact ((setContext _ s).trans (produceNotice _ _)).trans (deliveryCheck _ _)
  · exact (setContext _ s).trans (deliveryCheck _ _)
  · exact setContext _ s

theorem dataWriteDeparts (s : State) : Orderly c s s.dataWriteDeparts := by
  unfold State.dataWriteDeparts
  split
  · next occupancy address payload rest hq =>
    refine (departs (o := s.hau.interruptOwed) hq (.hostWrite address payload)).trans ?_
    dsimp only
    split
    · exact .refl _
    · exact writeDeparted _ _
  · exact .refl s

/-! ### Requests -/

theorem reconfigureLanes (mask : BitVec 4) (role : Role) (epoch : Byte) (s : State) :
    Orderly c s (s.reconfigureLanes mask role epoch) := by
  have hlane (a b ch : Bool) (l : Lane) : (l.reconfigure a b ch).txQueue.length ≤ l.txQueue.length := by
    unfold Lane.reconfigure Lane.toSeeking Lane.toOff
    split
    · exact le_rfl
    · exact Nat.zero_le _
    · exact Nat.zero_le _
    · split
      · exact Nat.zero_le _
      · exact le_rfl
  unfold State.reconfigureLanes
  dsimp only
  refine .trans ?_ (judgeLink _)
  refine (.of_fits ⟨.refl _, ⟨id, fun l h => ?_⟩, id, .refl _, .refl _⟩)
  simpa [State.lane] using (hlane _ _ _ _).trans h

theorem takeConfigure (tag : Tag) (x : ConfigRecord) (s : State) : Orderly c s (s.takeConfigure tag x) :=
  .ite (fun _ => ((reconfigureLanes _ _ _ s).trans .of_blocks).trans (postReserved _ _)) fun _ => postReserved _ s

theorem takeOpen (i : StreamId) (tag : Tag) (s : State) : Orderly c s (s.takeOpen i tag) := by
  unfold State.takeOpen
  split
  · next h =>
    have hv : s.Vacant i := .inr (by simp [h])
    have hv' : (s.resetSequences i).Vacant i := .inr (by simp [State.resetSequences, h])
    exact ((resetSequences hv).trans (restate (.inl hv'))).trans (sendSync i _)
  · exact postDone _ _ _ _ _ s

/-- A CLOSE cancels an opening: its OPEN finishes, its list fails and the stream ends (R16). -/
theorem cancelOpening (i : StreamId) (s : State) : Orderly c s (s.cancelOpening i) := by
  have stopped : Orderly c s (s.setStream i { s.stream i with syncTimer := .stopped }) := .setStream rfl
  have failed (u : State) : Orderly c u (((u.failList i .closedLocally).releaseBuffers i).enterReleasing i .closed) :=
    have hv : ((u.failList i .closedLocally).releaseBuffers i).Vacant i := u.failList_vacant i _
    ((failList i _ u).trans (releaseBuffers i _)).trans (enterReleasing hv _)
  exact (stopped.trans (finishOpen i .cancelled _)).trans (failed _)

/-- A CLOSE on a FAULTED stream (R17). -/
theorem closeFaulted (h : (s.stream i).state = .faulted) (tag : Tag) (mode : CloseMode) :
    Orderly c s (((s.addClose i tag mode).releaseBuffers i).enterReleasing i .closed) := by
  have taken : Orderly c s (s.addClose i tag mode) := .setStream rfl
  have hv : ((s.addClose i tag mode).releaseBuffers i).Vacant i := .inr (by simp [State.addClose, State.releaseBuffers, h])
  exact (taken.trans (releaseBuffers i _)).trans (enterReleasing hv _)

theorem takeClose (i : StreamId) (tag : Tag) (mode : CloseMode) (s : State) : Orderly c s (s.takeClose i tag mode) := by
  have taken : Orderly c s (s.addClose i tag mode) := .setStream rfl
  unfold State.takeClose
  dsimp only
  split
  · exact taken.trans (cancelOpening i _)
  · exact (taken.trans (restate (.inr (.inr rfl)))).trans (endDrainIfEmpty i _)
  · exact taken.trans (endFailed _ _ _ _ _)
  · exact taken.trans (endFailed _ _ _ _ _)
  · next h => exact closeFaulted h tag _
  · exact postDone _ _ _ _ _ s

/-- A SEND joins a list and takes an entry of the pool only while both have room (R27, R29). -/
theorem takeSend (i : StreamId) (tag : Tag) (a : HostAddr) (n : Nat) (s : State) : Orderly c s (s.takeSend i tag a n) := by
  unfold State.takeSend
  split
  · exact postDone _ _ _ _ _ s
  · next hr =>
    have ho := State.sendRefusal_none hr
    obtain ⟨hlen, hpool⟩ := State.sendRefusal_none_room hr
    refine .of_stream i ⟨.refl _, .refl _, id, .refl _, .set (fun _ => ?_) fun _ => ?_⟩ ?_
      (fun j hj => State.setTxs_txView_ne _ hj) id
    · simpa using hlen
    · have hone : ∀ e : SendEntry, ((s.txs i).list ++ [e]).length = (s.txs i).list.length + 1 := by simp
      rw [hone]
      change s.sendEntries + _ ≤ 256 + (s.txs i).list.length
      omega
    · rw [State.setTxs_txView_self]
      exact .appended (v := s.txView i) rfl hlen rfl rfl rfl rfl ho rfl (.of_stopped rfl rfl) id

/-- A POST joins a list and takes an entry of the table only while both have room (R56, R58, R59). -/
theorem takePost (i : StreamId) (tag : Tag) (a : HostAddr) (n : Nat) (s : State) : Orderly c s (s.takePost i tag a n) := by
  unfold State.takePost
  split
  · exact postDone _ _ _ _ _ s
  · next hr =>
    obtain ⟨hlen, hpool⟩ := State.postRefusal_none_room hr
    dsimp only
    refine .trans ?_ (postDone _ _ _ _ _ _)
    refine .of_fits ⟨.refl _, .refl _, id, .set rfl (fun _ => ?_) id fun _ => ?_, .refl _⟩
    · simpa using hlen
    · have hone : RxStream.buffers { s.rxs i with bufferList := (s.rxs i).bufferList ++ [⟨tag, a, n⟩] } =
          (s.rxs i).buffers + 1 := by
        simp only [RxStream.buffers, List.length_append, List.length_singleton]
        omega
      rw [hone]
      change s.buffersInUse + s.re.contexts.length + _ ≤ 512 + s.re.contexts.length + (s.rxs i).buffers
      omega

theorem takeFence (tag : Tag) (scope : FenceScope) (s : State) : Orderly c s (s.takeFence tag scope) := by
  refine .ite (fun _ => postReserved _ s) fun h => .ite (fun _ => postReserved _ s) fun _ => ?_
  have hlen : s.ft.length < 4 := not_le.mp h
  exact .of_fits ⟨.refl _, .refl _, fun _ => by simpa using hlen, .refl _, .refl _⟩

theorem takeQueryStream (i : StreamId) (tag : Tag) (clear : Bool) (s : State) :
    Orderly c s (s.takeQueryStream i tag clear) := by
  have cleared (u : State) : Orderly c u (u.clearStreamCounters i) :=
    .trans (.setTxs_counters (r := { u.txs i with slicesSent := 0, retransmissions := 0, defersReceived := 0 }) rfl rfl)
      (.setRxs rfl rfl)
  exact .ite (fun _ => (postDone _ _ _ _ _ s).trans (cleared _)) fun _ => postDone _ _ _ _ _ s

theorem takeQueryLink (tag : Tag) (clear : Bool) (s : State) : Orderly c s (s.takeQueryLink tag clear) := by
  have cleared (u : State) : Orderly c u u.clearLaneCounters :=
    .of_fits ⟨.refl _, ⟨id, fun l h => by simpa [State.clearLaneCounters] using h⟩, id, .refl _, .refl _⟩
  exact .ite (fun _ => (postReserved _ s).trans (cleared _)) fun _ => postReserved _ s

theorem dispatch (tag : Tag) (r : Request) (s : State) : Orderly c s (s.dispatch tag r) := by
  cases r with
  | configure => exact takeConfigure tag _ s
  | openStream i => exact takeOpen i tag s
  | closeStream i mode => exact takeClose i tag mode s
  | send i a n => exact takeSend i tag a n s
  | post i a n => exact takePost i tag a n s
  | fence scope => exact takeFence tag scope s
  | queryStream i clear => exact takeQueryStream i tag clear s
  | queryLink clear => exact takeQueryLink tag clear s

theorem processRecord (r : RequestRecord) (s : State) : Orderly c s (s.processRecord r) := by
  unfold State.processRecord
  split
  · exact postReserved _ s
  · exact .ite (fun _ => dispatch _ _ s) fun _ => postReserved _ s

theorem completeRecordRead (r : RequestRecord) (s : State) : Orderly c s (s.completeRecordRead r) := by
  have advanced (u : State) : Orderly c u u.advanceRing := .of_blocks
  unfold State.completeRecordRead
  split
  · exact .refl s
  · refine (dropRead _ s).trans (.ite (fun _ => .refl _) fun _ => ?_)
    split
    · exact (advanced _).trans (processRecord r _)
    · exact .of_blocks
    · exact .refl _

theorem receiveRecordData (data : List Byte) (s : State) : Orderly c s (s.receiveRecordData data) := by
  unfold State.receiveRecordData
  split
  · exact .refl s
  · exact .ite (fun _ => completeRecordRead _ s) fun _ => updateRead _ _ s

/-! ### The register window and the grants -/

/-- The engine moves between STOPPED and RUNNING, neither of which stops a timer (R178). -/
theorem writeEnable (e : Bool) (s : State) : Orderly c s (s.writeEnable e) := by
  have moved {x : HostAccess} (he : x.engine ≠ .halted) (u : State) (ht : x.tracker = u.hau.tracker)
      (hw : x.writeQueue = u.hau.writeQueue) : Orderly c u { u with hau := x } :=
    ⟨⟨.of_le (ht ▸ le_rfl) (hw ▸ le_rfl), .refl _, id, .refl _, .refl _⟩,
      fun _ => .refl (fun h => .inl (h.resolve_right he)) _⟩
  unfold State.writeEnable
  split
  · exact moved (by simp) s rfl rfl
  · have returned : Orderly c s s.returnHeldReservation := .ite (fun _ => .of_blocks) fun _ => .refl s
    exact returned.trans (moved (by simp) _ rfl rfl)
  · exact .refl s

theorem writeControl (e ie : Bool) (s : State) : Orderly c s (s.writeControl e ie) := by
  have enabled : Orderly c s { s with hau.intEnable := ie } := .of_blocks
  exact (enabled.trans (writeEnable e _)).trans (judgeInterrupt _ _)

theorem writeRqRing (v : BitVec 64) (s : State) : Orderly c s (s.writeRqRing v) :=
  .ite (fun _ => .of_blocks) fun _ => .refl s

theorem writeCqRing (v : BitVec 64) (s : State) : Orderly c s (s.writeCqRing v) := by
  refine .ite (fun _ => .trans ?_ (judgeInterrupt _ _)) fun _ => .refl s
  exact .of_blocks

theorem writeCqHead (v : BitVec 32) (s : State) : Orderly c s (s.writeCqHead v) := by
  refine .ite (fun _ => .trans ?_ (judgeInterrupt _ _)) fun _ => .refl s
  exact .of_blocks

theorem linkEventGrant (s : State) : Orderly c s (if s.linkGrantEnabled then s.grantLinkEvent else s) :=
  .ite (fun _ => (postRecord _ s).trans .of_blocks) fun _ => .refl s

theorem streamEventGrant (s : State) : Orderly c s s.streamEventGrant := by
  refine .ite (fun _ => ?_) fun _ => .refl s
  split
  · exact .refl s
  · split
    · exact .refl s
    · exact (postRecord _ s).trans (.setStream rfl)

/-- A granted release list gives one buffer back (R64). -/
theorem grantRelease {e : ReleaseEntry} {rest : List ReleaseEntry} (hl : (s.rxs i).releaseList = e :: rest) :
    Orderly c s (s.grantRelease i e rest) := by
  refine .trans (postRecord (e.completion i) s) ?_
  have hl : ((s.postRecord (e.completion i)).rxs i).releaseList = e :: rest := by rw [State.postRecord_eq]; exact hl
  unfold State.grantRelease
  generalize s.postRecord (e.completion i) = u at hl ⊢
  have released : Orderly c u (u.setRxs i { u.rxs i with releaseList := rest }) := by
    have hsum : u.re.contexts.length + RxStream.buffers { u.rxs i with releaseList := rest } ≤
        u.re.contexts.length + (u.rxs i).buffers := by
      simp only [RxStream.buffers, hl, List.length_cons]
      omega
    exact setBuffers (n := u.re.nextOccupancy) le_rfl (.inl le_rfl) hsum
  have pointed (x : State) : Orderly c x { x with cp.releasePointer := i } := .of_blocks
  exact (released.trans (pointed _)).trans (closeIfReleased i _)

theorem releaseListGrant (s : State) : Orderly c s s.releaseListGrant := by
  refine .ite (fun _ => ?_) fun _ => .refl s
  split
  · exact .refl s
  · split
    · exact .refl s
    · next hl => exact grantRelease hl

/-- A reset leaves every list, queue and pool empty (R179). -/
theorem resetWith (rq cq : Ring) (s : State) : Orderly c s (s.resetWith rq cq) := by
  refine ⟨⟨⟨fun _ => Nat.zero_le _, fun _ => Nat.zero_le _⟩, ⟨fun _ => Nat.zero_le _, fun l _ => ?_⟩, fun _ => Nat.zero_le _,
    ⟨fun _ => Nat.zero_le _, fun i _ => ?_, fun _ => ?_⟩, ⟨fun i _ => ?_, fun _ => ?_⟩⟩, fun i => ?_⟩
  · rw [show (s.resetWith rq cq).lm.lanes[l] = Lane.reset from s.resetWith_lane rq cq l]
    exact Nat.zero_le _
  · rw [show (s.resetWith rq cq).re.rx[i] = RxStream.reset from s.resetWith_rxs rq cq i]
    exact Nat.zero_le _
  · simp [State.resetWith, State.reset, ReceiveEngine.reset, ReceiveEngine.inUse, RxStream.buffers, RxStream.reset]
  · rw [show (s.resetWith rq cq).te.tx[i] = TxStream.reset from s.resetWith_txs rq cq i]
    exact Nat.zero_le _
  · simp [State.resetWith, State.reset, TransmitEngine.reset, TxStream.reset]
  · refine .cleared (congrArg TxStream.list (s.resetWith_txs rq cq i)) fun k => ?_
    exact congrArg (fun o => o.bind (SlotWork.msnOn i)) (s.resetWith_slot rq cq k)

theorem writeRegister (offset size : Nat) (v : BitVec 64) (s : State) : Orderly c s (s.writeRegister offset size v) := by
  have control (v : BitVec 64) : Orderly c s (s.writeControlWord v) :=
    .ite (fun _ => resetWith _ _ s) fun _ => writeControl _ _ s
  have tail (v : BitVec 32) : Orderly c s (s.writeRqTail v) := .of_blocks
  have same : Orderly c s s := .refl s
  exact .ite (fun _ => .ite (fun _ => control _) fun _ => .ite (fun _ => writeRqRing _ s) fun _ =>
      .ite (fun _ => writeRqRing _ s) fun _ => .ite (fun _ => writeCqRing _ s) fun _ => .ite (fun _ => writeCqRing _ s) fun _ =>
      .ite (fun _ => tail _) fun _ => .ite (fun _ => writeCqHead _ s) fun _ => same) fun _ =>
    .ite (fun _ => .ite (fun _ => writeRqRing _ s) fun _ => .ite (fun _ => writeCqRing _ s) fun _ => same) fun _ => same

end Orderly

/-! ### Every command -/

/-- Every command keeps the limits and the laws of the transmit lists; of their timers, where the link is UP exactly
while a lane is. -/
theorem exec_orderly (x : Instr) (s : State) : ∃ t, exec x s = .next t ∧ Orderly (LinkAgrees s) s t := by
  cases x with
  | portReset => exact ⟨_, rfl, .resetWith _ _ s⟩
  | softReset => exact ⟨_, rfl, .resetWith _ _ s⟩
  | enableSet ie => exact ⟨_, rfl, .writeControl _ _ s⟩
  | enableClear ie => exact ⟨_, rfl, .writeControl _ _ s⟩
  | intEnableWrite e ie => exact ⟨_, rfl, .writeControl _ _ s⟩
  | rqRingWrite v => exact ⟨_, rfl, .writeRqRing v s⟩
  | cqRingWrite v => exact ⟨_, rfl, .writeCqRing v s⟩
  | rqTailWrite v => exact ⟨_, rfl, .of_blocks⟩
  | cqHeadWrite v => exact ⟨_, rfl, .writeCqHead v s⟩
  | registerWrite offset size v => exact ⟨_, rfl, .writeRegister offset size v s⟩
  | configure => exact ⟨_, rfl, .completeRecordRead _ s⟩
  | openStream => exact ⟨_, rfl, .completeRecordRead _ s⟩
  | closeStream => exact ⟨_, rfl, .completeRecordRead _ s⟩
  | send => exact ⟨_, rfl, .completeRecordRead _ s⟩
  | post => exact ⟨_, rfl, .completeRecordRead _ s⟩
  | fence => exact ⟨_, rfl, .completeRecordRead _ s⟩
  | queryStream => exact ⟨_, rfl, .completeRecordRead _ s⟩
  | queryLink => exact ⟨_, rfl, .completeRecordRead _ s⟩
  | reservationGrant => exact ⟨_, rfl, .ite (fun _ => .grantReservation s) fun _ => .refl s⟩
  | recordReadIssue =>
    refine ⟨_, rfl, .ite (fun h => .issueRecordRead ?_) fun _ => .refl s⟩
    simp only [State.recordReadEnabled, Bool.and_eq_true] at h
    exact h.1.2
  | recordReadComplete data => exact ⟨_, rfl, .receiveRecordData data s⟩
  | sliceReadIssue => exact ⟨_, rfl, .sliceReadIssue s⟩
  | sliceReadReturn id data => exact ⟨_, rfl, .receiveSliceData id data s⟩
  | readError id => exact ⟨_, rfl, .readErrors id s⟩
  | readTimeout id => exact ⟨_, rfl, .readTimesOut id s⟩
  | forgottenReadReturn id => exact ⟨_, rfl, .of_blocks⟩
  | forgottenReadExpiry id => exact ⟨_, rfl, .of_blocks⟩
  | slicerSlotFill => exact ⟨_, rfl, .slotFill s⟩
  | unitPlacement => exact ⟨_, rfl, .placement s⟩
  | laneUnitTransmit l => exact ⟨_, rfl, .transmit l s⟩
  | alignReceived l role epoch ready =>
    exact ⟨_, rfl, .ite (fun _ => .hearBad l s) fun _ => .hearAlign l role epoch ready s⟩
  | badUnitReceived l => exact ⟨_, rfl, .hearBad l s⟩
  | idleReceived l => exact ⟨_, rfl, .hearUnit fun _ _ => .refl _⟩
  | silenceTimerExpiry l => exact ⟨_, rfl, .silence l s⟩
  | sliceReceived l => exact ⟨_, rfl, .hearUnit fun _ _ => .sliceArrives _ _⟩
  | syncReceived l i g => exact ⟨_, rfl, .hearUnit fun _ _ => .syncArrives i g _⟩
  | syncAckReceived l i g => exact ⟨_, rfl, .hearUnit fun _ _ => .syncAckArrives i g _⟩
  | syncTimerExpiry i => exact ⟨_, rfl, .syncExpiry i s⟩
  | ackReceived l i g m => exact ⟨_, rfl, .hearUnit fun _ _ => .applyOutcome i g m (by simp) _⟩
  | deferReceived l i g m a reason => exact ⟨_, rfl, .hearUnit fun hup _ => .applyDefer i g m a hup.not_still⟩
  | rejectTooLongReceived l i g m => exact ⟨_, rfl, .hearUnit fun _ _ => .applyOutcome i g m (by simp) _⟩
  | rejectNotOpenReceived l i g m => exact ⟨_, rfl, .hearUnit fun _ _ => .applyNotOpen i g m _⟩
  | ackTimerExpiry i m => exact ⟨_, rfl, .ackExpiry i m s⟩
  | holdoffTimerExpiry i m => exact ⟨_, rfl, .holdoffExpiry i m s⟩
  | dataWriteDeparts => exact ⟨_, rfl, .dataWriteDeparts s⟩
  | recordWriteDeparts => exact ⟨_, rfl, .recordWriteDeparts s⟩
  | backlogMove => exact ⟨_, rfl, .backlogMove s⟩
  | interruptMessage msi => exact ⟨_, rfl, .interruptMessage msi s⟩
  | linkEventGrant => exact ⟨_, rfl, .linkEventGrant s⟩
  | streamEventGrant => exact ⟨_, rfl, .streamEventGrant s⟩
  | releaseListGrant => exact ⟨_, rfl, .releaseListGrant s⟩

theorem step_orderly {s t : State} (h : step s = .next t) : Orderly (LinkAgrees s) s t := by
  unfold step at h
  split at h
  · obtain rfl := Host.Outcome.next.inj h
    exact .refl s
  · next x q _ =>
    obtain ⟨u, hu, ho⟩ := exec_orderly x { s with pending := q }
    obtain rfl := Host.Outcome.next.inj (hu.symm.trans h)
    have taken : Orderly (LinkAgrees s) s { s with pending := q } := .of_blocks
    exact taken.trans ho

/-- Settles O54: `TransmitListsLawful` is a law of each stream's `TxView`, and every step is `Orderly`. -/
theorem stepKeepsTransmitListsLawful : Obligations.StepKeepsTransmitListsLawful := by
  intro s t hl hs
  rw [transmitListsLawful_iff] at hl ⊢
  exact fun i => ((step_orderly hs).lists i).lawful (hl i)

/-- Settles O55: the law of the timers is a law of each stream's `TxView` as well. -/
theorem stepKeepsEntryTimersLawful : Obligations.StepKeepsEntryTimersLawful := by
  intro s t ha hl ht hs
  rw [transmitListsLawful_iff] at hl
  rw [entryTimersLawful_iff] at ht ⊢
  exact fun i => ((step_orderly hs).lists i).timed ha (hl i) (ht i)

/-- Settles O49: every step is `Orderly`, so each limit that held still holds. -/
theorem stepKeepsLimits : Obligations.StepKeepsLimits := by
  rintro s t ⟨htracker, hwrites, hnotices, hlanes, hfences, hcontexts⟩ ⟨hlists, hpool, htable⟩ hs
  obtain ⟨host, link, fences, receive, transmit⟩ := (step_orderly hs).fits
  exact ⟨⟨host.tracker htracker, host.writeQueue hwrites, link.notices hnotices, fun l => link.lanes l (hlanes l),
      fences hfences, receive.contexts hcontexts⟩,
    fun i => ⟨transmit.lists i (hlists i).1, receive.buffers i (hlists i).2⟩, transmit.pool hpool, receive.inUse htable⟩

end Sys2Proof.Machine

namespace Sys2Proof.Machine

set_option Elab.async false -- one thread for each lemma would need more memory than the check allows

/-! ### Taking a SEND -/

/-- A SEND record with a length in range passes the checks of a configured part (R142 to R145). -/
theorem exec_send {s : State} {q : ReadEntry} (h : AwaitsRecord s q) (hc : s.rp.config.configured = true)
    (i : StreamId) (tag : Tag) (a : HostAddr) {n : BitVec 16} (hn : 1 ≤ n.toNat ∧ n.toNat ≤ 16384) :
    exec (.send (streamByte i) tag a n) s = .next ((s.recordTaken q).takeSend i tag a n.toNat) := by
  simp [exec, execSend, State.completeRecordRead_eq h, State.processRecord, RequestRecord.check,
    RequestRecord.reservedZero, RequestRecord.inRange, cleanRecord, hc, State.dispatch, messageBytesOf, hn]

/-- A refused SEND posts its completion and does nothing else (R29). -/
theorem State.takeSend_refused {s : State} {i : StreamId} {status : Status} (h : s.sendRefusal i = some status)
    (tag : Tag) (a : HostAddr) (n : Nat) :
    s.takeSend i tag a n = s.withPosted [doneFor .send i tag status (.sendDone 0 0 0)] := by
  rw [takeSend, h]
  exact postReserved_eq _ s

/-- Settles O15: the checks of R29 in their order are `sendRefusal`, which the taking of the record leaves as it was. -/
theorem sendIsTaken : Obligations.SendIsTaken := by
  intro s q i tag a n hq hc hn sendable refused
  rw [exec_send hq hc i tag a hn]
  have hstate : ¬((s.stream i).state ≠ .opening ∧ (s.stream i).state ≠ .opened) ↔ sendable := by
    simp only [sendable]; tauto
  have hrefusal : (s.recordTaken q).sendRefusal i = if ¬sendable then some .wrongState
      else if 32 ≤ (s.txs i).list.length then some .listFull
      else if 256 ≤ s.sendEntries then some .poolEmpty else none := by
    simp only [← hstate, not_not]
    rfl
  refine ⟨fun hs hl hp => ?_, fun hs => ?_, fun hs hl => ?_, fun hs hl hp => ?_⟩
  · rw [if_neg (not_not.mpr hs), if_neg (not_le.mpr hl), if_neg (not_le.mpr hp)] at hrefusal
    rw [State.takeSend, hrefusal]
    rfl
  · rw [if_pos hs] at hrefusal
    exact congrArg _ (State.takeSend_refused hrefusal tag a _)
  · rw [if_neg (not_not.mpr hs), if_pos hl] at hrefusal
    exact congrArg _ (State.takeSend_refused hrefusal tag a _)
  · rw [if_neg (not_not.mpr hs), if_neg (not_le.mpr hl), if_pos hp] at hrefusal
    exact congrArg _ (State.takeSend_refused hrefusal tag a _)

/-! ### Slice reads -/

/-- Settles O20: the first slot in turn that wants a read issues it (`find?_turnAfter`), under an identifier that no
read holds (`freshReadId_fresh`). -/
theorem sliceReadIsIssued : Obligations.SliceReadIsIssued := by
  intro s k w e he ht hroom hk hw hfirst a n
  have hslot : s.readSlot = some k := by
    rw [State.readSlot, ← find?_turnAfter hfirst]
    simp
  have hen : s.sliceReadEnabled = true := by
    simp [State.sliceReadEnabled, State.trackerRoom, State.isHalted, Config.trackerSize, hroom, he, ht]
  have hx : exec .sliceReadIssue s = .next (s.issueSliceRead k w e) := by
    simp [exec, execSliceReadIssue, State.sliceReadIssue, hen, hslot, hk, State.slotEntry, hw]
  obtain ⟨hid, hforgotten⟩ := s.freshReadId_fresh
  refine ⟨s.freshReadId, hid, hforgotten, hx.trans (congrArg _ ?_)⟩
  by_cases hp : w.placeA = .free <;> simp only [State.issueSliceRead, SlotWork.fillPlace, hp, if_true, if_false] <;> rfl

/-- A read is complete once as many bytes have come as it asks for (R180). -/
theorem ReadEntry.receive_complete (r : ReadEntry) (data : List Byte) :
    (r.receive data).complete = true ↔ r.length ≤ (r.received ++ data).length := by
  simp [complete, receive]

/-- Settles O21: the last part takes the read out of the tracker and its bytes to the slot that `fillWaiting` finds; an
earlier part joins what has come. -/
theorem sliceReadReturns : Obligations.SliceReadReturns := by
  intro s r k occupation index data hr ho he all gone fill
  have hh : gone.isHalted = false := by simp [gone, State.isHalted, he]
  have hx : exec (.sliceReadReturn r.id data) s = .next (if (r.receive data).complete then
      gone.fillWaiting k occupation index (r.receive data).received else s.updateRead r.id (r.receive data)) := by
    simp only [exec, execSliceReadReturn, State.receiveSliceData, hr, ho]
    rfl
  refine ⟨fun hl w hk hw => ?_, fun hl hn => ?_, fun hl => ?_⟩
  · have hg : gone.slot k = some w := hk
    subst hw
    rw [hx, if_pos (r.receive_complete data |>.mpr hl), State.fillWaiting, hh, hg]
    simp only [Bool.false_eq_true, if_false, if_true]
    rfl
  · rw [hx, if_pos (r.receive_complete data |>.mpr hl), State.fillWaiting, hh]
    have hg : gone.slot k = s.slot k := rfl
    rw [hg]
    cases hk : s.slot k with
    | none => rfl
    | some w => simp only [hn w hk, Bool.false_eq_true, if_false]
  · have hall : all.take r.length = all := List.take_of_length_le hl.le
    rw [hx, if_neg fun hc => absurd (r.receive_complete data |>.mp hc) (not_le.mpr hl), ReadEntry.receive, hall]
    rfl

/-! ### The slicer -/

/-- The lowest-numbered free slot is the one that is filled (R32, assumption 18). -/
theorem State.freeSlot_eq {s : State} {k : SlotId} (hk : s.slot k = none) (hj : ∀ j < k, s.slot j ≠ none) :
    s.freeSlot = some k := by
  rw [freeSlot, List.find?_eq_some_iff_getElem]
  refine ⟨by simp [hk], k.val, by simp, by simp, fun j hlt => ?_⟩
  simpa [Option.isSome_iff_ne_none] using hj ⟨j, by omega⟩ hlt

/-- The oldest QUEUED entry of the send window (R32). -/
theorem TxStream.oldestQueued_eq {t : TxStream} {n : Nat} {e : SendEntry} (hn : n < 8) (he : t.list[n]? = some e)
    (hq : e.state = .queued) (hold : ∀ m < n, ∀ d, t.list[m]? = some d → d.state ≠ .queued) : t.oldestQueued = some e := by
  obtain ⟨hlen, hget⟩ := List.getElem?_eq_some_iff.mp he
  rw [oldestQueued, List.find?_eq_some_iff_getElem]
  refine ⟨by simpa using hq, n, by simp [Config.windowSize]; omega, by simpa using hget, fun m hm => ?_⟩
  simpa using hold m hm t.list[m] (List.getElem?_eq_getElem _)

/-- A stream has an eligible entry exactly when it is OPEN or DRAINING with a QUEUED one in its send window (R32). -/
theorem State.eligibleEntry_isSome (s : State) (i : StreamId) : (s.eligibleEntry i).isSome = true ↔
    ((s.stream i).state = .opened ∨ (s.stream i).state = .draining) ∧
      ∃ d ∈ (s.txs i).list.take 8, d.state = .queued := by
  have hq : (s.txs i).oldestQueued.isSome = true ↔ ∃ d ∈ (s.txs i).list.take 8, d.state = .queued := by
    simp [TxStream.oldestQueued, Config.windowSize]
  cases hs : (s.stream i).state <;> simp [eligibleEntry, hs, hq]

/-- Settles O24: the slot, the stream and the entry are the ones that the three searches find; MSNs are consecutive, so
the entry's MSN locates its position (`position_msn`). -/
theorem slotTakesEntry : Obligations.SlotTakesEntry := by
  intro s k i n e hup he hk hlow hcons hlen hn hget hq hold hfirst
  have hstream : s.fillStream = some i := by
    rw [State.fillStream, ← find?_turnAfter hfirst]
    congr
    funext j
    rw [Bool.eq_iff_iff, State.eligibleEntry_isSome, decide_eq_true_iff]
  have heligible : s.eligibleEntry i = some e := by
    have hold := TxStream.oldestQueued_eq hn hget hq hold
    rcases hfirst.1.1 with hs | hs <;> simp [State.eligibleEntry, hs, hold]
  have hpos : (s.txs i).position e.msn = n := by
    obtain ⟨hlt, rfl⟩ := List.getElem?_eq_some_iff.mp hget
    exact TxStream.position_msn hcons hlen hlt
  have hx : exec .slicerSlotFill s = .next (s.fillSlot k i e) := by
    simp [exec, execSlicerSlotFill, State.slotFill, State.fillEnabled, State.isHalted, hup, he, State.freeSlot_eq hk hlow,
      hstream, heligible]
  rw [hx, State.fillSlot, State.setEntry, hpos]
  rfl

/-! ### Placements -/

/-- The lane of a placement is the first UP one with room after the lane pointer (R126). -/
theorem State.placementLane_eq {s : State} {l : LaneId} (h : FirstInTurn s.lm.lanePointer l fun j =>
    (s.lane j).state = .up ∧ (s.lane j).txQueue.length < 4) : s.placementLane = some l := by
  rw [placementLane, ← find?_turnAfter h]
  congr
  funext j
  rw [Bool.eq_iff_iff, decide_eq_true_iff, Lane.hasRoom, Bool.and_eq_true, decide_eq_true_iff]
  exact and_congr_right fun _ => decide_eq_true_iff

/-- An entry of a stream whose list has just been written is replaced in that list. -/
theorem State.offered_setEntry (u : State) (i : StreamId) (t : TxStream) (k : SlotId) (m : Msn) (e : SendEntry) :
    State.setEntry { u.setTxs i t with te.offerPointer := k } i m e =
      { u.setTxs i { t with list := t.list.set (t.position m) e } with te.offerPointer := k } := by
  have ht : State.txs { u.setTxs i t with te.offerPointer := k } i = t := u.setTxs_txs_self i t
  rw [setEntry, setList, ht]
  exact congrArg (fun v : State => { v with te.offerPointer := k }) (u.setTxs_twice i t _)

/-- Settles O25: the lane and the slot are the first in turn (`find?_turnAfter`); a notice goes before any slice. -/
theorem unitIsPlaced : Obligations.UnitIsPlaced := by
  intro s l he hlane placed
  have hplacement := State.placementLane_eq hlane
  have hh : s.isHalted = false := by simp [State.isHalted, he]
  refine ⟨fun n rest hq => ?_, ?_⟩
  · have hx : exec .unitPlacement s = .next (State.placeUnit l (.notice n) { s with lm.noticeQueue := rest }) := by
      simp [exec, execUnitPlacement, State.placement, hh, hplacement, hq]
    rw [hx]
    rfl
  · intro k w e data hq hslot hk hent hdata last x t free u
    have hoffer : s.offeringSlot = some k := by
      rw [State.offeringSlot, ← find?_turnAfter hslot]
      simp
    have hx : exec .unitPlacement s = .next (s.acceptSlice l k w e data) := by
      simp [exec, execUnitPlacement, State.placement, hh, hplacement, hq, hoffer, hk, State.slotEntry, hent, hdata]
    rw [hx]
    refine congrArg _ ?_
    rw [State.acceptSlice]
    by_cases hl : w.nextHand + 1 = e.slices
    · have hlast : last = true := decide_eq_true hl
      rw [if_pos hl, if_pos hlast]
      rw [State.offered_setEntry]
      rfl
    · have hlast : ¬last = true := decide_eq_true_iff.not.mpr hl
      rw [if_neg hl, if_neg hlast]
      rfl

end Sys2Proof.Machine

namespace Sys2Proof.Machine

set_option Elab.async false -- one thread for each lemma would need more memory than the check allows

/-! ### Notices -/

section
variable {s : State} {l : LaneId} (hup : HearsUp s l) (i : StreamId) (g : Gen) (m : Msn)
include hup

/-- An UP lane hands a notice to the stream as its heard state has it (R41, R113). -/
theorem exec_ackReceived : exec (.ackReceived l i g m) s = .next ((s.heard l).applyOutcome i g m .acked) :=
  congrArg _ (State.hearUnit_up hup _)

theorem exec_rejectTooLongReceived : exec (.rejectTooLongReceived l i g m) s =
    .next ((s.heard l).applyOutcome i g m (.failed .remoteTooLong)) := congrArg _ (State.hearUnit_up hup _)

theorem exec_deferReceived (a : Attempt) (reason : DeferReason) :
    exec (.deferReceived l i g m a reason) s = .next ((s.heard l).applyDefer i g m a) :=
  congrArg _ (State.hearUnit_up hup _)

theorem exec_rejectNotOpenReceived : exec (.rejectNotOpenReceived l i g m) s = .next ((s.heard l).applyNotOpen i g m) :=
  congrArg _ (State.hearUnit_up hup _)

end

/-- A notice applies exactly under the generation of an OPEN or DRAINING stream (R41). -/
theorem State.noticeApplies_iff (s : State) (i : StreamId) (g : Gen) : s.noticeApplies i g = true ↔
    ((s.stream i).state = .opened ∨ (s.stream i).state = .draining) ∧ g = (s.stream i).gen := by
  rw [noticeApplies, decide_eq_true_iff, eq_comm (a := g)]

/-- The entry of the send window that an MSN locates is the one a notice applies to (R41). -/
theorem State.noticeEntry_eq {s : State} {i : StreamId} {m : Msn} {e : SendEntry}
    (hs : (s.stream i).state = .opened ∨ (s.stream i).state = .draining) (hw : (s.txs i).position m < 8)
    (he : (s.txs i).locate m = some e) : s.noticeEntry i (s.stream i).gen m = some e := by
  rw [noticeEntry, if_pos ((s.noticeApplies_iff i _).mpr ⟨hs, rfl⟩), TxStream.locateInWindow]
  exact (if_pos hw).trans he

/-- A notice that does not apply to its stream applies to no entry (R41). -/
theorem State.noticeEntry_not_applies {s : State} {i : StreamId} {g : Gen} (h : ¬s.noticeApplies i g = true) (m : Msn) :
    s.noticeEntry i g m = none := if_neg h

/-- An MSN that locates nothing in the send window names no entry (R41). -/
theorem State.noticeEntry_not_located {s : State} {i : StreamId} {m : Msn}
    (h : 8 ≤ (s.txs i).position m ∨ (s.txs i).locate m = none) (g : Gen) : s.noticeEntry i g m = none := by
  have hn : (s.txs i).locateInWindow m = none := by
    rw [TxStream.locateInWindow]
    split
    · next hw => exact h.resolve_left (not_le.mpr hw)
    · rfl
  rw [noticeEntry, hn, ite_self]

section
variable {s : State} {i : StreamId} {g : Gen} {m : Msn} (h : s.noticeEntry i g m = none)
include h

/-- An outcome without an entry changes nothing (R41). -/
theorem State.applyOutcome_none (x : EntryState) : s.applyOutcome i g m x = s := by rw [applyOutcome, h]

/-- A DEFER without an entry changes nothing (R41). -/
theorem State.applyDefer_none (a : Attempt) : s.applyDefer i g m a = s := by rw [applyDefer, h]

end

/-- Settles O29: a stray notice applies to no entry, and a HALTED engine passes nothing on. -/
theorem strayNoticesAreIgnored : Obligations.StrayNoticesAreIgnored := by
  intro s l i g m a reason answered
  have ignored (hup : HearsUp s l) (h : (s.heard l).noticeEntry i g m = none) : answered (s.heard l) :=
    ⟨(exec_ackReceived hup i g m).trans (congrArg _ (State.applyOutcome_none h _)),
      (exec_deferReceived hup i g m a reason).trans (congrArg _ (State.applyDefer_none h a)),
      (exec_rejectTooLongReceived hup i g m).trans (congrArg _ (State.applyOutcome_none h _))⟩
  refine ⟨fun hup hstray => ?_, fun hup hnone => ?_, fun hhalt => ?_⟩
  · have hn : ¬(s.heard l).noticeApplies i g = true := fun ha =>
      let ⟨hs, hg⟩ := ((s.heard l).noticeApplies_iff i g).mp ha
      hstray.elim (· hs) (· hg)
    exact ⟨ignored hup (State.noticeEntry_not_applies hn m),
      (exec_rejectNotOpenReceived hup i g m).trans (congrArg _ (if_neg hn))⟩
  · exact ignored hup (State.noticeEntry_not_located (s := s.heard l) hnone g)
  · have halted (act : State → State) : (.next (s.hearUnit l act) : Result) = .next s :=
      congrArg _ (State.hearUnit_halted hhalt l act)
    exact ⟨⟨halted _, halted _, halted _⟩, halted _⟩

/-- The current attempt as O27 has it: the slot's for a SENDING entry, the entry's own otherwise (R43). -/
theorem State.currentAttempt_eq (s : State) (i : StreamId) (e : SendEntry) : s.currentAttempt i e =
    if e.state = .sending then ((s.slotWorkOf i e.msn).map SlotWork.attempt).getD e.attempt else e.attempt := by
  rw [currentAttempt]
  cases s.slotWorkOf i e.msn <;> simp

/-- An accepted DEFER in one closed form: the entry HELD in its list, one more DEFER counted, its slot free (R43). -/
theorem State.holdEntry_eq (s : State) (i : StreamId) (m : Msn) (e : SendEntry) : s.holdEntry i m e =
    State.freeSlotOf (s.setTxs i { s.txs i with
      list := (s.txs i).list.set ((s.txs i).position m)
        { e with
          state := .held
          ackTimer := .stopped
          holdoffTimer := .running s.rp.config.deferHoldoff
          defers := satInc e.defers }
      defersReceived := satInc (s.txs i).defersReceived }) i e.msn := by
  simp only [holdEntry, setEntry, setList, setTxs_txs_self, setTxs_twice]
  rfl

/-- Settles O27: the DEFER finds the entry that its MSN locates, and holds it exactly if it is of the attempt that the
entry transmits. -/
theorem deferHoldsEntry : Obligations.DeferHoldsEntry := by
  intro s l i m a reason e hup hs t hw he transmits current
  have hn : (s.heard l).noticeEntry i (s.stream i).gen m = some e := State.noticeEntry_eq (s := s.heard l) hs hw he
  have hc : (s.heard l).currentAttempt i e = current := (s.heard l).currentAttempt_eq i e
  rw [exec_deferReceived hup, State.applyDefer, hn]
  simp only [hc]
  refine ⟨fun ht ha => ?_, fun hno => ?_⟩
  · rw [if_pos ⟨ht, ha.symm⟩, State.holdEntry_eq, State.freeSlotOf_eq]
    rfl
  · rw [if_neg fun ⟨ht, ha⟩ => hno.elim (· ht) (· ha.symm)]

/-! ### Lanes and the link -/

/-- What a good unit does to a lane that is ALIGNED or UP: the heard state (R111). -/
theorem State.setLane_hearGood {s : State} {l : LaneId} (h : (s.lane l).state = .aligned ∨ (s.lane l).state = .up) :
    s.setLane l (s.lane l).hearGood = s.heard l := by
  rcases h with h | h <;> simp only [State.heard, Lane.hearGood, h] <;> rfl

/-- What a good unit does to a SEEKING lane (R111). -/
theorem Lane.hearGood_seeking {r : Lane} (h : r.state = .seeking) : r.hearGood = { r with badRun := 0 } := by
  simp only [hearGood, h]

section
variable {s : State} {l : LaneId} {role : Role} {epoch : Byte} {ready : Bool} (he : s.hau.engine ≠ .halted)
  (hz : epoch ≠ 0)
include he hz

theorem exec_alignReceived_seeking (h : (s.lane l).state = .seeking) : exec (.alignReceived l role epoch ready) s =
    .next ((s.setLane l { s.lane l with badRun := 0 }).seekingAlign l role) := by
  simp only [exec, execAlignReceived, if_neg hz, State.hearAlign, State.isHalted, he, h, decide_false,
    Bool.false_eq_true, if_false, Lane.hearGood_seeking h]

theorem exec_alignReceived_aligned (h : (s.lane l).state = .aligned) : exec (.alignReceived l role epoch ready) s =
    .next ((s.heard l).alignedAlign l role epoch ready) := by
  simp only [exec, execAlignReceived, if_neg hz, State.hearAlign, State.isHalted, he, h, decide_false,
    Bool.false_eq_true, if_false, State.setLane_hearGood (.inl h)]

theorem exec_alignReceived_up (h : (s.lane l).state = .up) : exec (.alignReceived l role epoch ready) s =
    .next (if ready then s.heard l else (s.heard l).seekLane l) := by
  simp only [exec, execAlignReceived, if_neg hz, State.hearAlign, State.isHalted, he, h, decide_false,
    Bool.false_eq_true, if_false, State.setLane_hearGood (.inr h)]

end

/-- A lane that comes UP while the link is UP leaves the link as it is (R123). -/
theorem State.judgeLink_up {s : State} (h : s.anyLaneUp = true) (hl : s.lm.linkState = .up) : s.judgeLink = s := by
  simp only [judgeLink, h, hl]

/-- A lane that comes UP while the link is DOWN takes the link UP with it: timers resume and one link change is
recorded (R51, R123, R124). -/
theorem State.judgeLink_comes_up {s : State} (h : s.anyLaneUp = true) (hl : s.lm.linkState = .down)
    (he : s.hau.engine ≠ .halted) : s.judgeLink = { s with
      lm.linkState := .up
      lm.linkEvent := satInc s.lm.linkEvent
      te.tx := s.te.tx.map fun t => { t with list := t.list.map SendEntry.resumeTimers } } := by
  have hh : State.isHalted { s with lm.linkState := .up } = false := by simp [isHalted, he]
  simp only [judgeLink, h, hl, transmitLinkUp, hh]
  rfl

/-- Settles O40: the case of the lane's state, and for a lane that comes UP the judgement of the link. -/
theorem alignTrainsLane : Obligations.AlignTrainsLane := by
  intro s l role epoch ready he hz r hears other
  refine ⟨fun hseek hother hrun => ?_, fun hseek hother hrun => ?_, fun hseek hown => ?_, fun hal hother hr => ?_,
    fun hal hother hr hepoch _ => ?_, fun hup hr => ?_⟩
  · have hlow : ¬Config.alignRun ≤ r.validRun + 1 := by simp only [Config.alignRun]; omega
    refine (exec_alignReceived_seeking he hz hseek).trans (congrArg _ ?_)
    simp only [State.seekingAlign, State.setLane_lane_self, State.setLane_twice]
    exact (if_neg hother).trans (if_neg hlow)
  · have hfull : Config.alignRun ≤ r.validRun + 1 := by simp only [Config.alignRun]; omega
    refine (exec_alignReceived_seeking he hz hseek).trans (congrArg _ ?_)
    simp only [State.seekingAlign, State.setLane_lane_self, State.setLane_twice]
    exact (if_neg hother).trans (if_pos hfull)
  · refine (exec_alignReceived_seeking he hz hseek).trans (congrArg _ ?_)
    simp only [State.seekingAlign, State.setLane_lane_self, State.setLane_twice]
    exact if_pos (not_not.mp hown)
  · refine (exec_alignReceived_aligned he hz hal).trans (congrArg _ ?_)
    rw [State.alignedAlign, hr]
    exact if_neg hother
  · intro up
    have hlane : (s.heard l).lane l = { r with badRun := 0, silenceTimer := .running 64 } := State.setLane_lane_self ..
    have hjudge : hears = .next (State.judgeLink { up with lm.partnerEpoch := epoch }) := by
      refine (exec_alignReceived_aligned he hz hal).trans (congrArg _ ?_)
      rw [State.alignedAlign, hr, State.laneUp, hlane]
      exact (if_neg hother).trans (if_pos hepoch)
    have hany : State.anyLaneUp { up with lm.partnerEpoch := epoch } = true :=
      (State.anyLaneUp_iff _).mpr ⟨l, congrArg Lane.state (State.setLane_lane_self (s.heard l) l _)⟩
    exact ⟨fun hl => hjudge.trans (congrArg _ (State.judgeLink_up hany hl)),
      fun hl => hjudge.trans (congrArg _ (State.judgeLink_comes_up hany hl he))⟩
  · exact (exec_alignReceived_up he hz hup).trans (congrArg _ (if_pos hr))

/-- Settles O43: each of the three causes is the return of the lane to SEEKING (`seekLane_setLane`), and `laneLost` of
the last UP lane is the link DOWN in the same event. -/
theorem lastLaneTakesLinkDown : Obligations.LastLaneTakesLinkDown := by
  intro s l he hlink hup hothers down
  have hagrees : LinkAgrees s := by simp [LinkAgrees, hlink, s.anyLaneUp_iff.mpr ⟨l, hup⟩]
  have hh : s.isHalted = false := by simp [State.isHalted, he]
  have lost (r : Lane) : s.laneLost l r = down r.seekingFrom := if_pos ⟨hup, hothers⟩
  refine ⟨fun left htimer => ?_, fun role epoch hz => ?_, fun hbad => ?_⟩
  · have hx : s.silence l = s.seekLane l := by simp [State.silence, hh, hup, htimer, Timer.isRunning]
    exact congrArg _ (hx.trans ((State.seekLane_eq hagrees l).trans (lost _)))
  · refine (exec_alignReceived_up he hz hup).trans (congrArg _ ?_)
    exact (State.seekLane_setLane hagrees l _).trans (lost _)
  · have hfour : Config.badUnitLimit ≤ (s.lane l).badRun + 1 := by simp only [Config.badUnitLimit]; omega
    have hx : s.hearBad l = State.seekLane l (s.setLane l { s.lane l with
        badUnits := satInc (s.lane l).badUnits
        badRun := (s.lane l).badRun + 1
        silenceTimer := .running 64 }) := by
      simp only [State.hearBad, hh, hup, if_pos hfour]
      rfl
    exact congrArg _ (hx.trans ((State.seekLane_setLane hagrees l _).trans (lost _)))

end Sys2Proof.Machine

namespace Sys2Proof.Machine

set_option Elab.async false -- one thread for each lemma would need more memory than the check allows

/-! ### Slices that are merged -/

/-- The state once the message of a slice has taken its stream's head buffer and a free context (R60, R77). -/
def State.messageBound (u : SliceUnit) (b : Buffer) (rest : List Buffer) (s : State) : State :=
  { s.setRxs u.stream { s.rxs u.stream with bufferList := rest } with
    re.contexts := s.re.contexts ++ [newContext u.stream u.msn b s.re.nextOccupancy]
    re.nextOccupancy := s.re.nextOccupancy + 1 }

/-- The binding of a message is the merge of its first slice in the state with the new context (R77). -/
theorem State.bindSlice_eq (u : SliceUnit) (b : Buffer) (rest : List Buffer) (s : State) :
    s.bindSlice u b rest =
      (s.messageBound u b rest).mergeSlice (newContext u.stream u.msn b s.re.nextOccupancy) u := rfl

/-- The context of a message that has just been bound is the new one (R71, R77). -/
theorem State.messageBound_contextFor {s : State} {u : SliceUnit} (h : s.contextFor u.stream u.msn = none) (b : Buffer)
    (rest : List Buffer) : (s.messageBound u b rest).contextFor u.stream u.msn =
      some (newContext u.stream u.msn b s.re.nextOccupancy) := by
  have hold : s.re.contexts.find? (fun c => decide (c.stream = u.stream ∧ c.msn = u.msn)) = none := h
  rw [contextFor, messageBound, List.find?_append, hold, Option.none_or]
  exact List.find?_cons_of_pos (decide_eq_true ⟨rfl, rfl⟩)

/-- What R72 to R74 ask of a slice before its context is looked for: its format, its stream's state and generation, and
the window. -/
structure State.TakesSlice (s : State) (u : SliceUnit) : Prop where
  live : (s.stream u.stream).state = .opened ∨ (s.stream u.stream).state = .draining
  gen : u.gen = (s.stream u.stream).gen
  index : u.index.toNat < 64
  length : if u.last then 1 ≤ u.payload.length ∧ u.payload.length ≤ 256 else u.payload.length = 256
  window : (u.msn - (s.rxs u.stream).rxExpected).toNat < 8

/-- Binding a message moves neither its stream nor the window, so its slice is taken as before (R60, R77). -/
theorem State.TakesSlice.messageBound {s : State} {u : SliceUnit} (h : s.TakesSlice u) (b : Buffer)
    (rest : List Buffer) : (s.messageBound u b rest).TakesSlice u := by
  have hrx : (s.messageBound u b rest).rxs u.stream = { s.rxs u.stream with bufferList := rest } := s.setRxs_rxs_self ..
  exact ⟨h.live, h.gen, h.index, h.length, by simpa only [hrx] using h.window⟩

theorem SliceUnit.formatGood_iff (u : SliceUnit) : u.formatGood = true ↔ u.index.toNat < 64 ∧
    (if u.last then 1 ≤ u.payload.length ∧ u.payload.length ≤ 256 else u.payload.length = 256) := by
  rw [formatGood, Bool.and_eq_true, decide_eq_true_iff]
  cases u.last with
  | true => exact and_congr_right' decide_eq_true_iff
  | false => exact and_congr_right' decide_eq_true_iff

/-- A slice that is taken is placed by its position in the receive window (R72 to R74). -/
theorem State.sliceArrives_taken {s : State} {u : SliceUnit} (h : s.TakesSlice u) :
    s.sliceArrives u = s.sliceInGeneration u := by
  have hopen : s.sliceArrives u = s.sliceOnOpen u := by
    rw [sliceArrives, if_pos (u.formatGood_iff.mpr ⟨h.index, h.length⟩)]
    obtain ho | hd := h.live
    · rw [ho]
    · rw [hd]
  rw [hopen, sliceOnOpen, if_pos h.gen]

/-- A taken slice of a message that has an ASSEMBLING context is merged into it (R76). -/
theorem State.sliceArrives_assembling {s : State} {u : SliceUnit} {c : ReContext} (h : s.TakesSlice u)
    (hc : s.contextFor u.stream u.msn = some c) (ha : c.state = .assembling) :
    s.sliceArrives u = s.mergeSlice c u := by
  rw [sliceArrives_taken h, sliceInGeneration]
  refine (if_pos h.window).trans ?_
  simp only [hc, sliceForContext, ha]

/-- A taken slice of a new message that finds a buffer and a free context binds them (R77). -/
theorem State.sliceArrives_binds {s : State} {u : SliceUnit} {b : Buffer} {rest : List Buffer} (h : s.TakesSlice u)
    (hc : s.contextFor u.stream u.msn = none) (hb : (s.rxs u.stream).bufferList = b :: rest)
    (hfree : s.re.contexts.length < 128) : s.sliceArrives u = s.bindSlice u b rest := by
  rw [sliceArrives_taken h, sliceInGeneration]
  refine (if_pos h.window).trans ?_
  simp only [hc, newMessage, hb]
  exact if_pos hfree

/-- An UP lane hands a slice to the Receive Engine (R72, R113). -/
theorem exec_sliceReceived {s : State} {l : LaneId} (h : HearsUp s l) (u : SliceUnit) :
    exec (.sliceReceived l u.stream u.gen u.msn u.attempt u.index u.last u.payload) s =
      .next ((s.heard l).sliceArrives u) := congrArg _ (State.hearUnit_up h _)

/-- A slice that does not contradict the end its context knows of passes the check of R79. -/
theorem ReContext.disagrees_eq_false {c : ReContext} {u : SliceUnit}
    (hlast : u.last = true → (∀ k < 64, u.index.toNat < k → c.received.getLsbD k = false) ∧
      ∀ j n, c.lastSlice = some (j, n) → j = u.index.toNat)
    (hmiddle : u.last = false → ∀ j n, c.lastSlice = some (j, n) → u.index.toNat ≤ j) :
    c.disagrees u = false := by
  cases hu : u.last with
  | true =>
    obtain ⟨habove, hend⟩ := hlast hu
    have hnone : c.hasAbove u.index.toNat = false := by
      simp only [hasAbove, List.any_eq_false, List.mem_range, Bool.and_eq_true, decide_eq_true_eq]
      rintro k hk ⟨hi, hset⟩
      simp [habove k hk hi] at hset
    cases hl : c.lastSlice with
    | none => simp [disagrees, hu, hnone, hl]
    | some p => simp [disagrees, hu, hnone, hl, hend p.1 p.2 hl]
  | false =>
    cases hl : c.lastSlice with
    | none => simp [disagrees, hu, hl]
    | some p => simpa [disagrees, hu, hl] using hmiddle hu p.1 p.2 hl

/-- A slice that is new, agrees and fits is written while the write queue has room (R79 to R81). -/
theorem State.mergeSlice_eq {s : State} {c : ReContext} {u : SliceUnit}
    (hnew : c.received.getLsbD u.index.toNat = false) (hagrees : c.disagrees u = false)
    (hfits : 256 * u.index.toNat + u.payload.length ≤ c.buffer.capacity) (hroom : s.hau.writeQueue.length < 16) :
    s.mergeSlice c u = s.writeSlice c u := by
  have hover : c.overflows u = false := decide_eq_false (not_lt.mpr hfits)
  have hspace : s.writeRoom = true := decide_eq_true hroom
  simp [mergeSlice, hnew, hagrees, hover, hspace]

/-- The context knows the message's end and holds every slice up to it (R81). -/
def ReContext.Gapless (c : ReContext) : Prop :=
  ∃ j n, c.lastSlice = some (j, n) ∧ ∀ k ≤ j, c.received.getLsbD k = true

/-- The context with a slice, its write and the message's end noted (R81). -/
def ReContext.noted (c : ReContext) (u : SliceUnit) : ReContext :=
  { c with
    received := c.received ||| 1#64 <<< u.index.toNat
    writesOutstanding := c.writesOutstanding + 1
    lastSlice := if u.last then some (u.index.toNat, u.payload.length) else c.lastSlice }

theorem ReContext.allUpTo_iff (c : ReContext) (n : Nat) :
    c.allUpTo n = true ↔ ∀ k ≤ n, c.received.getLsbD k = true := by
  simp [allUpTo]

/-- The context LANDING if the last gap before its end is filled, else as it is (R81). -/
def ReContext.landed (c : ReContext) : ReContext :=
  match c.lastSlice with
  | some (j, _) => if c.allUpTo j then { c with state := .landing } else c
  | none => c

/-- The merge of a slice notes it and then judges whether the context is LANDING (R81). -/
theorem ReContext.merged_eq (c : ReContext) (u : SliceUnit) : c.merged u = (c.noted u).landed := rfl

/-- The judgement makes a context LANDING exactly when it has no gap, and changes nothing else (R81). -/
theorem ReContext.landed_eq (c : ReContext) :
    ∃ x, c.landed = { c with state := x } ∧ (x = .landing ∧ c.Gapless ∨ x = c.state ∧ ¬c.Gapless) := by
  unfold landed
  split
  · next j n hl =>
    have hg : c.Gapless ↔ c.allUpTo j = true := by simp [Gapless, allUpTo_iff, hl]
    by_cases h : c.allUpTo j = true
    · exact ⟨.landing, if_pos h, .inl ⟨rfl, hg.mpr h⟩⟩
    · exact ⟨c.state, if_neg h, .inr ⟨rfl, mt hg.mp h⟩⟩
  · next hl => exact ⟨c.state, rfl, .inr ⟨rfl, fun ⟨_, _, he, _⟩ => nomatch hl.symm.trans he⟩⟩

/-- Settles O31: an ASSEMBLING context takes the write branch of the merge (`mergeSlice_eq`, `landed_eq`), and a new
message's slice is the merge in the state with its context (`bindSlice_eq`), as a slice of that context is. -/
theorem sliceMerges : Obligations.SliceMerges := by
  intro s l u hup hlive hgen hindex hlength hwindow arrives
  have htakes : (s.heard l).TakesSlice u := ⟨hlive, hgen, hindex, hlength, hwindow⟩
  refine ⟨fun c hc hroom ha hnew hfits hlast hmiddle => ?_, fun b rest hc hb hfree => ?_⟩
  · obtain ⟨x, hlanded, hx⟩ := (c.noted u).landed_eq
    have hwritten : (s.heard l).sliceArrives u = (s.heard l).writeSlice c u :=
      (State.sliceArrives_assembling htakes hc ha).trans
        (State.mergeSlice_eq hnew (ReContext.disagrees_eq_false hlast hmiddle) hfits hroom)
    have hkept : (c.noted u).state = .assembling := ha
    have hstate : x = .landing ∨ x = .assembling := hx.imp And.left fun h => h.1.trans hkept
    have hlanding : x = .landing ↔ (c.noted u).Gapless := by
      obtain ⟨rfl, hg⟩ | ⟨rfl, hg⟩ := hx
      · simp [hg]
      · simp [hg, hkept]
    refine ⟨{ c.noted u with state := x }, rfl, rfl, rfl, rfl, rfl, rfl, rfl, hstate, hlanding, ?_⟩
    rw [show arrives s = _ from exec_sliceReceived hup u, hwritten, State.writeSlice, c.merged_eq, hlanded]
    rfl
  · have hbound : ((s.messageBound u b rest).heard l).TakesSlice u := htakes.messageBound b rest
    calc arrives s
      _ = .next ((s.heard l).bindSlice u b rest) :=
        (exec_sliceReceived hup u).trans (congrArg _ (State.sliceArrives_binds htakes hc hb hfree))
      _ = .next (((s.messageBound u b rest).heard l).sliceArrives u) :=
        congrArg _ (State.sliceArrives_assembling hbound (State.messageBound_contextFor hc b rest) rfl).symm
      _ = arrives (s.messageBound u b rest) := (exec_sliceReceived (s := s.messageBound u b rest) hup u).symm

/-! ### Taking a POST -/

/-- A POST record with a capacity in range passes the checks of a configured part (R142 to R145). -/
theorem exec_post {s : State} {q : ReadEntry} (h : AwaitsRecord s q) (hc : s.rp.config.configured = true)
    (i : StreamId) (tag : Tag) (a : HostAddr) {n : BitVec 16} (hn : 1 ≤ n.toNat ∧ n.toNat ≤ 16384) :
    exec (.post (streamByte i) tag a n) s = .next ((s.recordTaken q).takePost i tag a n.toNat) := by
  simp [exec, execPost, State.completeRecordRead_eq h, State.processRecord, RequestRecord.check,
    RequestRecord.reservedZero, RequestRecord.inRange, cleanRecord, hc, State.dispatch, messageBytesOf, hn]

/-- An accepted POST joins the tail of the buffer list and counts itself in its completion (R59). -/
theorem State.takePost_accepted {s : State} {i : StreamId} (h : s.postRefusal i = none) (tag : Tag) (a : HostAddr)
    (n : Nat) : s.takePost i tag a n =
      (s.setRxs i { s.rxs i with bufferList := (s.rxs i).bufferList ++ [⟨tag, a, n⟩] }).withPosted
        [doneFor .post i tag .success (.postDone ((s.rxs i).bufferList.length + 1))] := by
  rw [takePost, h]
  exact postReserved_eq _ _

/-- A refused POST posts its completion with the buffers listed and does nothing else (R59). -/
theorem State.takePost_refused {s : State} {i : StreamId} {status : Status} (h : s.postRefusal i = some status)
    (tag : Tag) (a : HostAddr) (n : Nat) :
    s.takePost i tag a n = s.withPosted [doneFor .post i tag status (.postDone (s.rxs i).bufferList.length)] := by
  rw [takePost, h]
  exact postReserved_eq _ s

/-- Settles O16: the checks of R59 in their order are `postRefusal`, which the taking of the record leaves as it was. -/
theorem postIsTaken : Obligations.PostIsTaken := by
  intro s q i tag a n hq hc hn x postable listed refused
  rw [exec_post hq hc i tag a hn]
  have hstate : ¬(x ≠ .opening ∧ x ≠ .opened ∧ x ≠ .draining) ↔ postable := by
    simp only [postable]; tauto
  have hrefusal : (s.recordTaken q).postRefusal i = if ¬postable then some .wrongState
      else if 16 ≤ listed then some .listFull
      else if 512 ≤ s.buffersInUse then some .poolEmpty else none := by
    simp only [← hstate, not_not]
    rfl
  refine ⟨fun hs hl hp => ?_, fun hs => ?_, fun hs hl => ?_, fun hs hl hp => ?_⟩
  · rw [if_neg (not_not.mpr hs), if_neg (not_le.mpr hl), if_neg (not_le.mpr hp)] at hrefusal
    exact congrArg _ (State.takePost_accepted hrefusal tag a _)
  · rw [if_pos hs] at hrefusal
    exact congrArg _ (State.takePost_refused hrefusal tag a _)
  · rw [if_neg (not_not.mpr hs), if_pos hl] at hrefusal
    exact congrArg _ (State.takePost_refused hrefusal tag a _)
  · rw [if_neg (not_not.mpr hs), if_neg (not_le.mpr hl), if_pos hp] at hrefusal
    exact congrArg _ (State.takePost_refused hrefusal tag a _)

end Sys2Proof.Machine

namespace Sys2Proof.Machine

set_option Elab.async false -- one thread for each lemma would need more memory than the check allows

/-! ### What keeps the contexts within their windows

The law of R70 and R71 speaks of contexts, the states of their streams and `rx_expected` alone. A command could break it only
where it moves a window, binds a context or ends a stream; `WindowKept` composes the shared operations of a command, and
the lemmas below say of each such change what it needs: a stream may end, or take a new window, once it holds no context. -/

/-- The stream holds no context. -/
def State.NoContext (s : State) (i : StreamId) : Prop := ∀ c ∈ s.re.contexts, c.stream ≠ i

/-- The stream is in a state that may hold contexts (R71). -/
def StreamRecord.Receives (r : StreamRecord) : Prop := r.state = .opened ∨ r.state = .draining

/-- Two contexts differ in their occupancy, and in their MSN where they stand on one stream (R70, R71). -/
def ReContext.Apart (c d : ReContext) : Prop := (c.stream = d.stream → c.msn ≠ d.msn) ∧ c.occupancy ≠ d.occupancy

/-- From `s` to `t` the law of the contexts is kept (R70, R71). -/
structure WindowKept (s t : State) : Prop where
  keeps : ContextsInWindow s → ContextsInWindow t

section
variable {s t u : State} {i : StreamId} {c d : ReContext}

/-- Only OPEN and DRAINING streams hold contexts (R71). -/
theorem ContextsInWindow.noContext (h : ContextsInWindow s) (hi : ¬(s.stream i).Receives) : s.NoContext i := by
  rintro c hc rfl
  obtain ⟨_, hlive, _⟩ := h.1 c hc
  exact hi hlive

theorem ContextsInWindow.apart (h : ContextsInWindow s) (hc : c ∈ s.re.contexts) (hd : d ∈ s.re.contexts)
    (hn : c ≠ d) : c.Apart d := by
  have hsymm : Std.Symm ReContext.Apart := ⟨fun _ _ ⟨hm, ho⟩ => ⟨fun hs => (hm hs.symm).symm, ho.symm⟩⟩
  exact List.Pairwise.forall (R := ReContext.Apart) h.2 hc hd hn

theorem ContextsInWindow.eq_of_occupancy (h : ContextsInWindow s) (hc : c ∈ s.re.contexts) (hd : d ∈ s.re.contexts)
    (ho : c.occupancy = d.occupancy) : c = d := by
  by_contra hn
  exact (h.apart hc hd hn).2 ho

theorem ContextsInWindow.eq_of_msn (h : ContextsInWindow s) (hc : c ∈ s.re.contexts) (hd : d ∈ s.re.contexts)
    (hs : c.stream = d.stream) (hm : c.msn = d.msn) : c = d := by
  by_contra hn
  exact (h.apart hc hd hn).1 hs hm

namespace WindowKept

theorem refl (s : State) : WindowKept s s := ⟨id⟩

theorem trans (h : WindowKept s t) (h' : WindowKept t u) : WindowKept s u := ⟨h'.keeps ∘ h.keeps⟩

theorem of_window (h : ContextsInWindow s → WindowKept s t) : WindowKept s t :=
  ⟨fun hs => (h hs).keeps hs⟩

theorem ite {p : Prop} [Decidable p] {a b : State} (ha : p → WindowKept s a) (hb : ¬p → WindowKept s b) :
    WindowKept s (if p then a else b) := by
  split
  · next h => exact ha h
  · next h => exact hb h

/-- Contexts may go, and every stream that still holds one stays as it is. -/
theorem of_remaining (contexts : t.re.contexts.Sublist s.re.contexts)
    (occupancy : t.re.nextOccupancy = s.re.nextOccupancy)
    (streams : ∀ c ∈ t.re.contexts, ((t.stream c.stream).state = (s.stream c.stream).state ∨ (t.stream c.stream).Receives) ∧
      (t.rxs c.stream).rxExpected = (s.rxs c.stream).rxExpected) : WindowKept s t := by
  refine ⟨fun ⟨hcontexts, hpairs⟩ => ?_⟩
  refine ⟨fun c hc => ?_, hpairs.sublist contexts⟩
  obtain ⟨hposition, hlive, hoccupancy⟩ := hcontexts c (contexts.subset hc)
  obtain ⟨hstate, hrx⟩ := streams c hc
  refine ⟨by simpa only [RxStream.position, hrx] using hposition, ?_, occupancy ▸ hoccupancy⟩
  rcases hstate with hstate | hstate
  · rwa [hstate]
  · exact hstate

theorem of_states (states : ∀ j, (t.stream j).state = (s.stream j).state) (re : t.re = s.re := by rfl) :
    WindowKept s t :=
  .of_remaining (by rw [re]) (by rw [re]) fun c _ => ⟨.inl (states _), by simp only [State.rxs, re]⟩

theorem of_blocks (st : t.st = s.st := by rfl) (re : t.re = s.re := by rfl) : WindowKept s t :=
  .of_states (fun j => by simp only [State.stream, st]) re

/-- A stream may leave the states that hold contexts once it holds none. -/
theorem restate {r : StreamRecord} (h : s.NoContext i ∨ r.Receives) : WindowKept s (s.setStream i r) := by
  refine .of_remaining (.refl _) rfl fun c hc => ⟨?_, rfl⟩
  by_cases hi : c.stream = i
  · rw [hi, State.setStream_stream_self]
    exact .inr (h.resolve_left fun hn => hn c hc hi)
  · exact .inl (by rw [State.setStream_stream_ne _ _ _ _ hi])

theorem setStream {r : StreamRecord} (h : r.state = (s.stream i).state) : WindowKept s (s.setStream i r) := by
  refine .of_states fun j => ?_
  by_cases hj : j = i
  · rw [hj, State.setStream_stream_self, h]
  · rw [State.setStream_stream_ne _ _ _ _ hj]

/-- The window of a stream may move once the stream holds no context. -/
theorem setRxs {r : RxStream} (h : s.NoContext i ∨ r.rxExpected = (s.rxs i).rxExpected) :
    WindowKept s (s.setRxs i r) := by
  refine .of_remaining (.refl _) rfl fun c hc => ⟨.inl rfl, ?_⟩
  by_cases hi : c.stream = i
  · rw [hi, State.setRxs_rxs_self]
    exact h.resolve_left fun hn => hn c hc hi
  · rw [State.setRxs_rxs_ne _ _ _ _ hi]

/-- Contexts may take new contents under their stream, MSN and occupancy. -/
theorem mapped {f : ReContext → ReContext} (h : ∀ c ∈ s.re.contexts,
    (f c).stream = c.stream ∧ (f c).msn = c.msn ∧ (f c).occupancy = c.occupancy) :
    WindowKept s { s with re.contexts := s.re.contexts.map f } := by
  refine ⟨fun ⟨hcontexts, hpairs⟩ => ?_⟩
  refine ⟨List.forall_mem_map.mpr fun c hc => ?_, List.pairwise_map.mpr (hpairs.imp_of_mem fun {c d} hc hd hcd => ?_)⟩
  · obtain ⟨hs, hm, ho⟩ := h c hc
    rw [hs, hm, ho]
    exact hcontexts c hc
  · obtain ⟨hs, hm, ho⟩ := h c hc
    obtain ⟨hs', hm', ho'⟩ := h d hd
    rwa [hs, hm, ho, hs', hm', ho']

/-- `mapped` for the context that holds an occupancy (R70). -/
theorem setContext {x : ReContext} (hc : c ∈ s.re.contexts) (hs : x.stream = c.stream := by rfl)
    (hm : x.msn = c.msn := by rfl) (ho : x.occupancy = c.occupancy := by rfl) : WindowKept s (s.setContext x) := by
  refine .of_window fun h => .mapped fun d hd => ?_
  split
  · next hx =>
    obtain rfl := h.eq_of_occupancy hd hc (hx.trans ho)
    exact ⟨hs, hm, ho⟩
  · exact ⟨rfl, rfl, rfl⟩

end WindowKept
end
end Sys2Proof.Machine

namespace Sys2Proof.Machine

set_option Elab.async false -- one thread for each lemma would need more memory than the check allows

/-! ### Deliveries -/

theorem RxStream.position_advance {r : RxStream} {m : Msn} (h : m ≠ r.rxExpected) :
    RxStream.position { r with rxExpected := r.rxExpected + 1 } m + 1 = r.position m := by
  simp only [RxStream.position]
  bv_omega

/-- A delivery as the closed form of Sys2Proof/Safety.lean (R85). -/
theorem State.deliver_eq (i : StreamId) (c : ReContext) (s : State) : s.deliver i c = s.delivered i [c] := by
  simp [deliver, appendRelease, freeContext, delivered, setRxs, setStream, rxs, stream]

/-- Deliveries one after another are one run of deliveries (R85). -/
theorem State.delivered_append (i : StreamId) (ds es : List ReContext) (s : State) :
    (s.delivered i ds).delivered i es = s.delivered i (ds ++ es) := by
  simp [delivered, setRxs, setStream, rxs, stream, List.filter_filter, BitVec.ofNat_add, BitVec.add_assoc]
  exact List.filter_congr fun _ _ => Bool.and_comm ..

theorem State.delivered_nil (i : StreamId) (s : State) : s.delivered i [] = s := by
  have hst : s.setStream i { s.stream i with history := (s.stream i).history } = s := s.setStream_same i
  have hrx : s.setRxs i { s.rxs i with
      rxExpected := (s.rxs i).rxExpected + BitVec.ofNat 8 0, releaseList := (s.rxs i).releaseList ++ [] } = s := by
    rw [BitVec.add_zero, List.append_nil]
    exact s.setRxs_same i
  have hall : s.re.contexts.filter (fun _ => true) = s.re.contexts := List.filter_true s.re.contexts
  simp only [delivered, List.foldl_nil, List.length_nil, List.map_nil, List.contains_nil, Bool.not_false, hst, hrx, hall]

theorem State.delivered_rxExpected (i : StreamId) (ds : List ReContext) (s : State) :
    ((s.delivered i ds).rxs i).rxExpected = (s.rxs i).rxExpected + BitVec.ofNat 8 ds.length := by
  simp [delivered, setRxs, rxs]

theorem State.delivered_rxs_ne {i j : StreamId} (ds : List ReContext) (s : State) (h : j ≠ i) :
    (s.delivered i ds).rxs j = s.rxs j := s.setRxs_rxs_ne i _ j h

theorem State.delivered_state (i j : StreamId) (ds : List ReContext) (s : State) :
    ((s.delivered i ds).stream j).state = (s.stream j).state := by
  by_cases h : j = i
  · subst h
    change ((s.setStream j _).stream j).state = _
    rw [setStream_stream_self]
  · exact congrArg StreamRecord.state (s.setStream_stream_ne i _ j h)

theorem State.mem_delivered {i : StreamId} {ds : List ReContext} {s : State} {x : ReContext} :
    x ∈ (s.delivered i ds).re.contexts ↔ x ∈ s.re.contexts ∧ ∀ d ∈ ds, d.occupancy ≠ x.occupancy := by
  simp [delivered]

/-- The context that a delivery check delivers next is ready and stands at `rx_expected` (R85). -/
theorem State.deliverable_some {s : State} {i : StreamId} {c : ReContext} (h : s.deliverable i = some c) :
    c ∈ s.re.contexts ∧ c.stream = i ∧ c.msn = (s.rxs i).rxExpected ∧ c.ready = true := by
  have hp := List.find?_some h
  simp only [Bool.and_eq_true, decide_eq_true_eq] at hp
  obtain ⟨⟨hi, hm⟩, hr⟩ := hp
  exact ⟨List.mem_of_find?_eq_some h, hi, hm, hr⟩

theorem State.deliverable_none {s : State} {i : StreamId} (h : s.deliverable i = none) :
    ∀ x ∈ s.re.contexts, x.stream = i → x.msn = (s.rxs i).rxExpected → x.ready = false := by
  intro x hx hi hm
  simpa [hi, hm] using List.find?_eq_none.mp h x hx

/-- The delivery of the context at `rx_expected` moves the window by one, past that context alone (R69, R85). -/
theorem WindowKept.deliver {i : StreamId} {c : ReContext} {s : State} (hc : c ∈ s.re.contexts) (hi : c.stream = i)
    (hm : c.msn = (s.rxs i).rxExpected) : WindowKept s (s.deliver i c) := by
  rw [State.deliver_eq]
  refine ⟨fun h => ⟨fun x hx => ?_, h.2.sublist List.filter_sublist⟩⟩
  obtain ⟨hx, hne⟩ := State.mem_delivered.mp hx
  obtain ⟨hposition, hlive, hoccupancy⟩ := h.1 x hx
  refine ⟨?_, ?_, hoccupancy⟩
  · by_cases hxi : x.stream = i
    · have hxm : x.msn ≠ (s.rxs i).rxExpected := fun hxm =>
        hne c (List.mem_singleton_self c) (congrArg _ (h.eq_of_msn hc hx (hi.trans hxi.symm) (hm.trans hxm.symm)))
      have hadvance := RxStream.position_advance hxm
      rw [hxi] at hposition ⊢
      rw [RxStream.position, State.delivered_rxExpected]
      rw [RxStream.position] at hadvance
      exact lt_of_le_of_lt (Nat.le_of_succ_le hadvance.le) hposition
    · rwa [State.delivered_rxs_ne _ _ hxi]
  · rwa [State.delivered_state]

theorem WindowKept.deliverUpTo (i : StreamId) (n : Nat) (s : State) : WindowKept s (s.deliverUpTo i n) := by
  induction n generalizing s with
  | zero => exact .refl s
  | succ n ih =>
    unfold State.deliverUpTo
    split
    · exact .refl s
    · next c hc =>
      obtain ⟨hmem, hi, hm, _⟩ := State.deliverable_some hc
      exact (deliver hmem hi hm).trans (ih _)

theorem WindowKept.deliveryCheck (i : StreamId) (s : State) : WindowKept s (s.deliveryCheck i) := deliverUpTo i _ s

/-- A window of eight MSNs has room for a run of eight deliveries at most (R69). -/
theorem DeliveryRun.length_le {s : State} {i : StreamId} {ds : List ReContext} (h : DeliveryRun s i ds)
    (hs : ContextsInWindow s) : ds.length ≤ 8 := by
  by_contra hn
  obtain ⟨hmem, hi, _, hm⟩ := h.1 8 (by omega)
  obtain ⟨hposition, _⟩ := hs.1 _ hmem
  rw [hi, hm, RxStream.position] at hposition
  bv_omega

/-- A run goes on with the run after its first delivery (R85). -/
theorem DeliveryRun.cons {s : State} {i : StreamId} {c : ReContext} {ds : List ReContext} (hs : ContextsInWindow s)
    (hc : s.deliverable i = some c) (h : DeliveryRun (s.deliver i c) i ds) : DeliveryRun s i (c :: ds) := by
  obtain ⟨hmem, hi, hm, hready⟩ := State.deliverable_some hc
  have hlen := h.length_le ((WindowKept.deliver hmem hi hm).keeps hs)
  rw [State.deliver_eq] at h
  obtain ⟨hrun, hstop⟩ := h
  simp only [State.delivered_rxExpected, State.mem_delivered, List.length_singleton] at hrun hstop
  refine ⟨fun k hk => ?_, fun x hx hxi hxm => ?_⟩
  · cases k with
    | zero => exact ⟨hmem, hi, hready, by simpa using hm⟩
    | succ k =>
      obtain ⟨⟨hd, _⟩, hdi, hdr, hdm⟩ := hrun k (by simpa using hk)
      refine ⟨hd, hdi, hdr, ?_⟩
      rw [List.getElem_cons_succ, hdm]
      bv_omega
  · rw [List.length_cons] at hxm
    have hne : c.occupancy ≠ x.occupancy := fun ho => by
      obtain rfl := hs.eq_of_occupancy hmem hx ho
      bv_omega
    exact hstop x ⟨hx, by simpa using hne⟩ hxi (by rw [hxm]; bv_omega)

theorem State.deliverUpTo_eq {i : StreamId} {n : Nat} {s : State} (hs : ContextsInWindow s)
    (hn : s.re.contexts.length ≤ n) : ∃ ds, DeliveryRun s i ds ∧ s.deliverUpTo i n = s.delivered i ds := by
  induction n generalizing s with
  | zero =>
    have hnil : s.re.contexts = [] := by simpa using hn
    exact ⟨[], ⟨fun k hk => absurd hk (by simp), by simp [hnil]⟩, (s.delivered_nil i).symm⟩
  | succ n ih =>
    cases hc : s.deliverable i with
    | none =>
      refine ⟨[], ⟨fun k hk => absurd hk (by simp), by simpa using State.deliverable_none hc⟩, ?_⟩
      rw [deliverUpTo, hc, delivered_nil]
    | some c =>
      obtain ⟨hmem, hi, hm, _⟩ := deliverable_some hc
      have hless : (s.deliver i c).re.contexts.length < s.re.contexts.length :=
        List.length_filter_lt_length_iff_exists.mpr ⟨c, hmem, by simp⟩
      obtain ⟨ds, hrun, heq⟩ := ih ((WindowKept.deliver hmem hi hm).keeps hs) (by omega)
      refine ⟨c :: ds, hrun.cons hs hc, ?_⟩
      rw [deliverUpTo, hc]
      exact heq.trans (by rw [deliver_eq, delivered_append]; rfl)

/-- A delivery check delivers the run of ready contexts from `rx_expected` on (R85). -/
theorem State.deliveryCheck_eq {s : State} (hs : ContextsInWindow s) (i : StreamId) :
    ∃ ds, DeliveryRun s i ds ∧ s.deliveryCheck i = s.delivered i ds := deliverUpTo_eq hs le_rfl

end Sys2Proof.Machine

namespace Sys2Proof.Machine

set_option Elab.async false -- one thread for each lemma would need more memory than the check allows

/-- A flush leaves the stream without a context (R88). -/
theorem State.flush_noContext (s : State) (i : StreamId) (reason : ReturnReason) :
    (s.flush i reason).NoContext i :=
  fun _ hc => of_decide_eq_true (List.mem_filter.mp hc).2

namespace WindowKept
variable {s t u : State} {i : StreamId} {c : ReContext}

/-! ### Postings, notices and retirement -/

theorem withPosted (cs : List Completion) (s : State) : WindowKept s (s.withPosted cs) := .of_blocks (by simp) (by simp)

theorem postReserved (x : Completion) (s : State) : WindowKept s (s.postReserved x) := by
  rw [State.postReserved_eq]
  exact withPosted _ s

theorem postRecord (x : Completion) (s : State) : WindowKept s (s.postRecord x) := by
  rw [State.postRecord_eq]
  exact .of_blocks

theorem produceNotice (n : Notice) (s : State) : WindowKept s (s.produceNotice n) := .of_blocks (by simp) (by simp)

theorem setTxs (i : StreamId) (x : TxStream) (s : State) : WindowKept s (s.setTxs i x) := .of_blocks

theorem retireAll (i : StreamId) (es : List SendEntry) (s : State) : WindowKept s (s.retireAll i es) := by
  obtain ⟨cs, ft, h⟩ := State.retireAll_posts i es s
  rw [h]
  exact .trans (t := { s with ft := ft }) .of_blocks (withPosted _ _)

theorem retireHeads (i : StreamId) (s : State) : WindowKept s (s.retireHeads i) := (setTxs i _ s).trans (retireAll i _ _)

theorem failList (i : StreamId) (cause : ListFailure) (s : State) : WindowKept s (s.failList i cause) :=
  .trans (t := (s.freeSlotsOfStream i).setList i []) .of_blocks (retireAll i _ _)

/-! ### The ends of streams -/

theorem flush (i : StreamId) (reason : ReturnReason) (s : State) : WindowKept s (s.flush i reason) := by
  have freed : WindowKept s { s with re.contexts := s.re.contexts.filter fun c => decide (c.stream ≠ i) } :=
    .of_remaining List.filter_sublist rfl fun _ _ => ⟨.inl rfl, rfl⟩
  exact freed.trans (.setRxs (.inr rfl))

theorem releaseBuffers (i : StreamId) (s : State) : WindowKept s (s.releaseBuffers i) := .setRxs (.inr rfl)

theorem becomeClosed (h : s.NoContext i) : WindowKept s (s.becomeClosed i) := by
  unfold State.becomeClosed
  rw [State.postCloses_eq]
  exact (restate (.inl h)).trans (withPosted _ _)

theorem closeIfReleased (i : StreamId) (s : State) : WindowKept s (s.closeIfReleased i) :=
  .ite (fun h => .of_window fun hs => becomeClosed (hs.noContext (by simp [StreamRecord.Receives, h.1]))) fun _ => .refl s

theorem enterReleasing (h : s.NoContext i) (cause : ReleaseCause) : WindowKept s (s.enterReleasing i cause) :=
  (restate (.inl h)).trans (closeIfReleased i _)

/-- A stream ends once its contexts are flushed (R14, R15, R20). -/
theorem endStream (i : StreamId) (reason : ReturnReason) (cause : ReleaseCause) (s : State) :
    WindowKept s (((s.flush i reason).releaseBuffers i).enterReleasing i cause) := by
  have gone : ((s.flush i reason).releaseBuffers i).NoContext i := s.flush_noContext i reason
  exact ((flush i reason s).trans (releaseBuffers i _)).trans (enterReleasing gone cause)

theorem endDrainIfEmpty (i : StreamId) (s : State) : WindowKept s (s.endDrainIfEmpty i) :=
  .ite (fun _ => endStream i _ _ s) fun _ => .refl s

theorem retire (i : StreamId) (s : State) : WindowKept s (s.retire i) :=
  .ite (fun _ => .refl s) fun _ => (retireHeads i s).trans (endDrainIfEmpty i _)

theorem recordEvent (i : StreamId) (k : EventKind) (g : Gen) (s : State) : WindowKept s (s.recordEvent i k g) :=
  .setStream rfl

theorem reportFault (i : StreamId) (f : FaultReport) (s : State) : WindowKept s (s.reportFault i f) := by
  have failed : WindowKept s (s.failList i f.failure) := failList i _ s
  unfold State.reportFault
  split
  · have faulted := restate (r := { ((s.failList i f.failure).flush i f.reason).stream i with state := .faulted })
      (.inl ((s.failList i f.failure).flush_noContext i f.reason))
    exact ((failed.trans (flush i _ _)).trans faulted).trans (recordEvent i _ _ _)
  · exact failed.trans (endStream i _ _ _)
  · exact .refl s

theorem sendSync (i : StreamId) (s : State) : WindowKept s (s.sendSync i) := by
  have started : WindowKept s (s.setStream i { s.stream i with
      syncSent := satInc (s.stream i).syncSent, syncTimer := .running s.rp.config.syncInterval }) := setStream rfl
  exact started.trans (produceNotice _ _)

theorem restartStream (i : StreamId) (s : State) : WindowKept s (s.restartStream i) := by
  unfold State.restartStream
  split
  · exact reportFault i _ s
  · exact reportFault i _ s
  · exact recordEvent i _ _ s
  · exact sendSync i s
  · exact .refl s
  · exact .refl s

theorem partnerRestart (s : State) : WindowKept s s.partnerRestart :=
  List.foldlRecOn (motive := WindowKept s) _ State.restartStream (.refl s) fun _ hu i _ => hu.trans (restartStream i _)

/-! ### Generations -/

/-- A stream that holds no context takes a new window (R4, R10, R69). -/
theorem resetSequences (h : s.NoContext i) : WindowKept s (s.resetSequences i) := by
  have gone : (s.setTxs i { s.txs i with txNext := 0 }).NoContext i := h
  exact (setTxs i _ s).trans (setRxs (.inl gone))

theorem finishOpen (i : StreamId) (x : Status) (s : State) : WindowKept s (s.finishOpen i x) := by
  have finished : WindowKept s (s.setStream i { s.stream i with openPending := none }) := setStream rfl
  unfold State.finishOpen
  dsimp only
  split
  · exact .refl s
  · exact finished.trans (postReserved _ _)

theorem resync (i : StreamId) (g : Gen) (s : State) : WindowKept s (s.resync i g) := by
  have flushed := (failList i .peerResync s).trans (flush i .streamResync _)
  have begun := flushed.trans (resetSequences (State.flush_noContext _ i .streamResync))
  have renewed (u : State) : WindowKept u (u.setStream i { u.stream i with
      deferralNote := none, history := [], gen := g, lastGen := g }) := setStream rfl
  have announced (u : State) : WindowKept u (((u.produceNotice (.syncAck i g)).recordEvent i .resynced g).endDrainIfEmpty i) :=
    ((produceNotice _ u).trans (recordEvent i _ _ _)).trans (endDrainIfEmpty i _)
  exact (begun.trans (renewed _)).trans (announced _)

/-- The agreement on a generation opens the stream (R7, R8). -/
theorem opens (i : StreamId) (s : State) :
    WindowKept s ((s.setStream i { s.stream i with syncTimer := .stopped, state := .opened }).finishOpen i .success) :=
  (restate (.inr (.inl rfl))).trans (finishOpen i _ _)

theorem syncOpening (i : StreamId) (g : Gen) (s : State) : WindowKept s (s.syncOpening i g) := by
  have adopted : WindowKept s (s.setStream i { s.stream i with gen := g, lastGen := g }) := setStream rfl
  refine .ite (fun _ => produceNotice _ s) fun _ => ?_
  split
  · exact (adopted.trans (produceNotice _ _)).trans (opens i _)
  · exact sendSync i s

theorem syncArrives (i : StreamId) (g : Gen) (s : State) : WindowKept s (s.syncArrives i g) := by
  have opened : WindowKept s (s.syncOpened i g) := .ite (fun _ => produceNotice _ s) fun _ => resync i g s
  unfold State.syncArrives
  split
  · exact syncOpening i g s
  · exact opened
  · exact opened
  · exact .refl s
  · exact .refl s
  · exact .refl s

theorem syncAckArrives (i : StreamId) (g : Gen) (s : State) : WindowKept s (s.syncAckArrives i g) :=
  .ite (fun _ => opens i s) fun _ => .refl s

theorem syncExpiry (i : StreamId) (s : State) : WindowKept s (s.syncExpiry i) :=
  .ite (fun _ => .refl s) fun _ => .ite (fun _ => sendSync i s) fun _ => .refl s

/-! ### Send entries -/

theorem applyOutcome (i : StreamId) (g : Gen) (m : Msn) (x : EntryState) (s : State) :
    WindowKept s (s.applyOutcome i g m x) := by
  unfold State.applyOutcome
  split
  · exact .refl s
  · next e _ =>
    have settled : WindowKept s ((s.freeSlotOf i e.msn).setEntry i m { e.cancelTimers with state := x }) := .of_blocks
    exact .ite (fun _ => .refl s) fun _ => settled.trans (retire i _)

theorem applyNotOpen (i : StreamId) (g : Gen) (m : Msn) (s : State) : WindowKept s (s.applyNotOpen i g m) :=
  .ite (fun _ => reportFault i _ s) fun _ => .refl s

theorem applyDefer (i : StreamId) (g : Gen) (m : Msn) (a : Attempt) (s : State) : WindowKept s (s.applyDefer i g m a) := by
  unfold State.applyDefer
  split
  · exact .refl s
  · exact .ite (fun _ => .of_blocks) fun _ => .refl s

theorem ackExpiry (i : StreamId) (m : Msn) (s : State) : WindowKept s (s.ackExpiry i m) := by
  have replaced (e : SendEntry) : WindowKept s (s.setEntry i m e) := .of_blocks
  refine .ite (fun _ => .refl s) fun _ => ?_
  split
  · exact .refl s
  · exact .ite (fun _ => .ite (fun _ => (replaced _).trans (reportFault i _ _)) fun _ => .of_blocks) fun _ => .refl s

theorem holdoffExpiry (i : StreamId) (m : Msn) (s : State) : WindowKept s (s.holdoffExpiry i m) := by
  refine .ite (fun _ => .refl s) fun _ => ?_
  split
  · exact .refl s
  · exact .ite (fun _ => .of_blocks) fun _ => .refl s

theorem slotFill (s : State) : WindowKept s s.slotFill := by
  refine .ite (fun _ => ?_) fun _ => .refl s
  split
  · split
    · exact .of_blocks
    · exact .refl s
  · exact .refl s

theorem acceptSlice (l : LaneId) (k : SlotId) (w : SlotWork) (e : SendEntry) (data : List Byte) (s : State) :
    WindowKept s (s.acceptSlice l k w e data) := .ite (fun _ => .of_blocks) fun _ => .of_blocks

theorem placement (s : State) : WindowKept s s.placement := by
  refine .ite (fun _ => .refl s) fun _ => ?_
  split
  · exact .refl s
  · split
    · exact .of_blocks
    · split
      · exact .refl s
      · split
        · exact .refl s
        · split
          · exact acceptSlice ..
          · exact .refl s

end WindowKept
end Sys2Proof.Machine

namespace Sys2Proof.Machine

set_option Elab.async false -- one thread for each lemma would need more memory than the check allows

@[simp] theorem State.finishOpen_re (i : StreamId) (x : Status) (s : State) : (s.finishOpen i x).re = s.re := by
  unfold finishOpen
  dsimp only
  split
  · rfl
  · simp [postDone, postReserved_eq]

namespace WindowKept
variable {s t u : State} {i : StreamId} {c : ReContext}

/-! ### Reads and the register window -/

theorem issueRecordRead (s : State) : WindowKept s s.issueRecordRead := .of_blocks

theorem grantReservation (s : State) : WindowKept s s.grantReservation :=
  .ite (fun _ => .of_blocks) fun _ => .of_blocks

theorem sliceReadIssue (s : State) : WindowKept s s.sliceReadIssue := by
  refine .ite (fun _ => ?_) fun _ => .refl s
  split
  · exact .refl s
  · split
    · exact .refl s
    · split
      · exact .refl s
      · exact .of_blocks

theorem receiveSliceData (id : Nat) (data : List Byte) (s : State) : WindowKept s (s.receiveSliceData id data) := by
  have dropped : WindowKept s (s.dropRead id) := .of_blocks
  unfold State.receiveSliceData
  split
  · exact .refl s
  · split
    · exact .refl s
    · refine .ite (fun _ => dropped.trans (.ite (fun _ => .refl _) fun _ => ?_)) fun _ => .of_blocks
      split
      · exact .refl _
      · exact .ite (fun _ => .of_blocks) fun _ => .refl _

theorem judgeInterrupt (b : Bool) (s : State) : WindowKept s (State.judgeInterrupt b s) := by
  obtain ⟨o, ho⟩ := State.judgeInterrupt_eq b s
  rw [ho]
  exact .of_blocks

/-- A halt stops the sync timers, and no stream changes its state (R25, R185). -/
theorem halt (cause : HaltCause) (a : HostAddr) (s : State) : WindowKept s (s.halt cause a) :=
  .trans (.of_states fun j => by simp [State.stream]) (judgeInterrupt _ _)

theorem readErrors (id : Nat) (s : State) : WindowKept s (s.readErrors id) := by
  refine .ite (fun _ => .refl s) fun _ => ?_
  split
  · exact .refl s
  · exact .trans (t := s.dropRead id) .of_blocks (halt _ _ _)

theorem readTimesOut (id : Nat) (s : State) : WindowKept s (s.readTimesOut id) := by
  refine .ite (fun _ => .refl s) fun _ => ?_
  split
  · exact .refl s
  · exact .ite (fun _ => halt _ _ s) fun _ => .refl s

theorem writeControl (e ie : Bool) (s : State) : WindowKept s (s.writeControl e ie) := by
  refine .trans ?_ (judgeInterrupt _ _)
  unfold State.writeEnable State.returnHeldReservation
  split
  · exact .of_blocks
  · split <;> exact .of_blocks
  · exact .of_blocks

theorem writeRqRing (v : BitVec 64) (s : State) : WindowKept s (s.writeRqRing v) :=
  .ite (fun _ => .of_blocks) fun _ => .refl s

theorem writeCqRing (v : BitVec 64) (s : State) : WindowKept s (s.writeCqRing v) := by
  refine .ite (fun _ => .trans ?_ (judgeInterrupt _ _)) fun _ => .refl s
  exact .of_blocks

theorem writeCqHead (v : BitVec 32) (s : State) : WindowKept s (s.writeCqHead v) := by
  refine .ite (fun _ => .trans ?_ (judgeInterrupt _ _)) fun _ => .refl s
  exact .of_blocks

/-- A reset leaves no context (R96, R179). -/
theorem resetWith (rq cq : Ring) (s : State) : WindowKept s (s.resetWith rq cq) := ⟨fun _ => ⟨nofun, .nil⟩⟩

theorem writeRegister (offset size : Nat) (v : BitVec 64) (s : State) : WindowKept s (s.writeRegister offset size v) := by
  have control (v : BitVec 64) : WindowKept s (s.writeControlWord v) :=
    .ite (fun _ => resetWith _ _ s) fun _ => writeControl _ _ s
  have tail (v : BitVec 32) : WindowKept s (s.writeRqTail v) := .of_blocks
  have same : WindowKept s s := .refl s
  exact .ite (fun _ => .ite (fun _ => control _) fun _ => .ite (fun _ => writeRqRing _ s) fun _ =>
      .ite (fun _ => writeRqRing _ s) fun _ => .ite (fun _ => writeCqRing _ s) fun _ => .ite (fun _ => writeCqRing _ s) fun _ =>
      .ite (fun _ => tail _) fun _ => .ite (fun _ => writeCqHead _ s) fun _ => same) fun _ =>
    .ite (fun _ => .ite (fun _ => writeRqRing _ s) fun _ => .ite (fun _ => writeCqRing _ s) fun _ => same) fun _ => same

/-! ### Lanes and the link -/

theorem transmitLinkUp (s : State) : WindowKept s s.transmitLinkUp := .ite (fun _ => .refl s) fun _ => .of_blocks

theorem transmitLinkDown (s : State) : WindowKept s s.transmitLinkDown := by
  unfold State.transmitLinkDown
  exact .of_blocks

theorem judgeLink (s : State) : WindowKept s s.judgeLink := by
  have relinked (x : LinkManager) : WindowKept s { s with lm := x } := .of_blocks
  have counted (u : State) : WindowKept u u.recordLinkChange := .of_blocks
  unfold State.judgeLink
  split
  · exact ((relinked { s.lm with linkState := .up }).trans (transmitLinkUp _)).trans (counted _)
  · exact ((relinked { s.lm with linkState := .down, noticeQueue := [] }).trans (transmitLinkDown _)).trans (counted _)
  · exact .refl s

theorem setLane (l : LaneId) (r : Lane) (s : State) : WindowKept s (s.setLane l r) := .of_blocks

theorem seekLane (l : LaneId) (s : State) : WindowKept s (s.seekLane l) := (setLane l _ s).trans (judgeLink _)

theorem hearBad (l : LaneId) (s : State) : WindowKept s (s.hearBad l) := by
  refine .ite (fun _ => .refl s) fun _ => ?_
  split
  · exact .refl s
  · exact setLane l _ s
  · exact .ite (fun _ => (setLane l _ s).trans (seekLane l _)) fun _ => setLane l _ s

theorem silence (l : LaneId) (s : State) : WindowKept s (s.silence l) :=
  .ite (fun _ => .refl s) fun _ => .ite (fun _ => seekLane l s) fun _ => .refl s

/-- A good unit other than ALIGN moves its lane, or is passed on by an UP lane (R111, R113 to R115). -/
theorem hearUnit {act : State → State} {l : LaneId} (h : ∀ u, WindowKept u (act u)) : WindowKept s (s.hearUnit l act) := by
  refine .ite (fun _ => .refl s) fun _ => ?_
  split
  · exact .refl s
  · exact setLane l _ s
  · exact seekLane l s
  · exact (setLane l _ s).trans (h _)

theorem restartOn (l : LaneId) (epoch : Byte) (s : State) : WindowKept s (s.restartOn l epoch) := by
  have begun : WindowKept s (s.restartBegun l epoch) := .of_blocks (by simp) (by simp)
  have told := begun.trans (partnerRestart _)
  have counted (u : State) : WindowKept u u.recordLinkChange := .of_blocks
  rw [State.restartOn_eq]
  exact .trans (.ite (fun _ => told.trans (transmitLinkUp _)) fun _ => told) (counted _)

theorem seekingAlign (l : LaneId) (role : Role) (s : State) : WindowKept s (s.seekingAlign l role) :=
  .ite (fun _ => .of_blocks) fun _ => .ite (fun _ => .of_blocks) fun _ => .of_blocks

theorem alignedAlign (l : LaneId) (role : Role) (epoch : Byte) (ready : Bool) (s : State) :
    WindowKept s (s.alignedAlign l role epoch ready) := by
  have clash : WindowKept s { s with lm.roleClash := true } := .of_blocks
  have agreed : WindowKept s { s with lm.partnerEpoch := epoch } := .of_blocks
  refine .ite (fun _ => clash.trans (seekLane l _)) fun _ => .ite (fun _ => ?_) fun _ => .refl s
  exact .ite (fun _ => (agreed.trans (setLane l _ _)).trans (judgeLink _)) fun _ => restartOn l epoch s

theorem hearAlign (l : LaneId) (role : Role) (epoch : Byte) (ready : Bool) (s : State) :
    WindowKept s (s.hearAlign l role epoch ready) := by
  have heard : WindowKept s (s.setLane l (s.lane l).hearGood) := setLane l _ s
  refine .ite (fun _ => .refl s) fun _ => ?_
  split
  · exact .refl s
  · exact heard.trans (seekingAlign l role _)
  · exact heard.trans (alignedAlign l role epoch ready _)
  · exact .ite (fun _ => heard) fun _ => heard.trans (seekLane l _)

theorem transmit (l : LaneId) (s : State) : WindowKept s (s.transmit l) := by
  unfold State.transmit
  split
  · exact .refl s
  · exact .of_blocks
  · exact .of_blocks
  · split
    · exact .of_blocks
    · exact .of_blocks

/-! ### The write queue and the grants -/

theorem backlogMove (s : State) : WindowKept s s.backlogMove := by
  unfold State.backlogMove
  split
  · exact .refl s
  · exact .ite (fun _ => .of_blocks) fun _ => .refl s

theorem recordWriteDeparts (s : State) : WindowKept s s.recordWriteDeparts := by
  unfold State.recordWriteDeparts
  split
  · exact .of_blocks
  · exact .refl s

theorem interruptMessage (msi : Bool) (s : State) : WindowKept s (s.interruptMessage msi) :=
  .ite (fun _ => .ite (fun _ => .of_blocks) fun _ => .of_blocks) fun _ => .refl s

theorem linkEventGrant (s : State) : WindowKept s (if s.linkGrantEnabled then s.grantLinkEvent else s) :=
  .ite (fun _ => (postRecord _ s).trans .of_blocks) fun _ => .refl s

theorem streamEventGrant (s : State) : WindowKept s s.streamEventGrant := by
  have emptied (i : StreamId) (u : State) : WindowKept u (u.setStream i { u.stream i with event := none }) := setStream rfl
  refine .ite (fun _ => ?_) fun _ => .refl s
  split
  · exact .refl s
  · split
    · exact .refl s
    · exact (postRecord _ s).trans (emptied _ _)

theorem releaseListGrant (s : State) : WindowKept s s.releaseListGrant := by
  have shortened (i : StreamId) (l : List ReleaseEntry) (u : State) :
      WindowKept u (u.setRxs i { u.rxs i with releaseList := l }) := setRxs (.inr rfl)
  have pointed (i : StreamId) (u : State) : WindowKept u { u with cp.releasePointer := i } := .of_blocks
  refine .ite (fun _ => ?_) fun _ => .refl s
  split
  · exact .refl s
  · next i _ =>
    split
    · exact .refl s
    · next rest _ =>
      exact (((postRecord _ s).trans (shortened i rest _)).trans (pointed i _)).trans (closeIfReleased i _)

/-! ### Slices and data writes -/

theorem countStray (i : StreamId) (s : State) : WindowKept s (s.countStray i) := .setRxs (.inr rfl)

/-- A merge changes a context under its stream, MSN and occupancy (R81). -/
theorem merged (hc : c ∈ s.re.contexts) (v : SliceUnit) : WindowKept s (s.setContext (c.merged v)) := by
  obtain ⟨x, hx, _⟩ := (c.noted v).landed_eq
  rw [c.merged_eq, hx]
  exact setContext hc

theorem mergeSlice (hc : c ∈ s.re.contexts) (v : SliceUnit) : WindowKept s (s.mergeSlice c v) := by
  have refused := (setContext (x := { c with state := .oversize }) hc).trans (produceNotice
    (.reject c.stream (s.stream c.stream).gen c.msn .tooLong) _)
  refine .ite (fun _ => .refl s) fun _ => .ite (fun _ => countStray _ s) fun _ => .ite (fun _ => ?_) fun _ =>
    .ite (fun _ => (merged hc v).trans .of_blocks) fun _ => .refl s
  exact .ite (fun _ => refused.trans (deliveryCheck _ _)) fun _ => refused

theorem deferSlice (v : SliceUnit) (reason : DeferReason) (s : State) : WindowKept s (s.deferSlice v reason) := by
  have noted (u : State) (i : StreamId) (n : Option (Msn × Attempt)) :
    WindowKept u (u.setStream i { u.stream i with deferralNote := n }) := setStream rfl
  have counted (u : State) (i : StreamId) (n : BitVec 16) : WindowKept u (u.setRxs i { u.rxs i with defersSent := n }) :=
    setRxs (.inr rfl)
  exact .ite (fun _ => .refl s) fun _ => ((produceNotice _ s).trans (noted _ _ _)).trans (counted _ _ _)

/-- A new message of the window, which has no context yet, takes one under a new occupancy (R70, R71, R77). -/
theorem messageBound {v : SliceUnit} (hstate : (s.stream v.stream).Receives) (hposition : (s.rxs v.stream).position v.msn < 8)
    (hnew : s.contextFor v.stream v.msn = none) (b : Buffer) (rest : List Buffer) :
    WindowKept s (s.messageBound v b rest) := by
  have listed : WindowKept s (s.setRxs v.stream { s.rxs v.stream with bufferList := rest }) := setRxs (.inr rfl)
  refine listed.trans ⟨fun ⟨hcontexts, hpairs⟩ => ⟨fun c hc => ?_, ?_⟩⟩
  · rcases List.mem_append.mp hc with hc | hc
    · obtain ⟨hp, hs, ho⟩ := hcontexts c hc
      exact ⟨hp, hs, Nat.lt_succ_of_lt ho⟩
    · obtain rfl := List.mem_singleton.mp hc
      refine ⟨?_, hstate, Nat.lt_succ_self _⟩
      exact (congrArg (RxStream.position · v.msn) (s.setRxs_rxs_self v.stream _)).trans_lt hposition
  · refine List.pairwise_append.mpr ⟨hpairs, List.pairwise_singleton .., fun c hc d hd => ?_⟩
    obtain rfl := List.mem_singleton.mp hd
    obtain ⟨_, _, ho⟩ := hcontexts c hc
    refine ⟨fun hi hm => ?_, Nat.ne_of_lt ho⟩
    exact absurd (decide_eq_true ⟨hi, hm⟩) (List.find?_eq_none.mp hnew c hc)

theorem newMessage {v : SliceUnit} (hstate : (s.stream v.stream).Receives) (hposition : (s.rxs v.stream).position v.msn < 8)
    (hnew : s.contextFor v.stream v.msn = none) : WindowKept s (s.newMessage v) := by
  unfold State.newMessage
  split
  · exact deferSlice v _ s
  · next b rest _ =>
    refine .ite (fun _ => ?_) fun _ => deferSlice v _ s
    rw [State.bindSlice_eq]
    exact (messageBound hstate hposition hnew b rest).trans
      (mergeSlice (List.mem_append_right _ (List.mem_singleton_self _)) v)

theorem sliceForContext (hc : c ∈ s.re.contexts) (v : SliceUnit) : WindowKept s (s.sliceForContext c v) := by
  unfold State.sliceForContext
  split
  · exact mergeSlice hc v
  · exact .refl s
  · exact produceNotice _ s
  · exact produceNotice _ s

theorem behindWindow (v : SliceUnit) (s : State) : WindowKept s (s.behindWindow v) := by
  unfold State.behindWindow
  split
  · exact produceNotice _ s
  · exact produceNotice _ s
  · exact countStray _ s

theorem sliceOnOpen {v : SliceUnit} (hstate : (s.stream v.stream).Receives) : WindowKept s (s.sliceOnOpen v) := by
  refine .ite (fun _ => .ite (fun hp => ?_) fun _ => .ite (fun _ => behindWindow v s) fun _ => countStray _ s) fun _ =>
    countStray _ s
  split
  · next c hc => exact sliceForContext (List.mem_of_find?_eq_some hc) v
  · next hnew => exact newMessage hstate hp hnew

theorem sliceArrives (v : SliceUnit) (s : State) : WindowKept s (s.sliceArrives v) := by
  refine .ite (fun _ => ?_) fun _ => countStray _ s
  split
  · exact produceNotice _ s
  · exact produceNotice _ s
  · exact produceNotice _ s
  · exact .refl s
  · next ho => exact sliceOnOpen (.inl ho)
  · next hd => exact sliceOnOpen (.inr hd)

theorem writeDeparted (hc : c ∈ s.re.contexts) : WindowKept s (s.writeDeparted c) := by
  have fewer : WindowKept s (s.setContext { c with writesOutstanding := c.writesOutstanding - 1 }) := setContext hc
  refine .ite (fun _ => ?_) fun _ => fewer
  split
  · have complete : WindowKept s (s.setContext { c with
        writesOutstanding := c.writesOutstanding - 1, state := .complete }) := setContext hc
    exact (complete.trans (produceNotice _ _)).trans (deliveryCheck _ _)
  · exact fewer.trans (deliveryCheck _ _)
  · exact fewer

theorem dataWriteDeparts (s : State) : WindowKept s s.dataWriteDeparts := by
  unfold State.dataWriteDeparts
  split
  · next occupancy address payload rest _ =>
    refine .trans (t := State.emit { s with hau.writeQueue := rest } (.hostWrite address payload)) .of_blocks ?_
    dsimp only
    split
    · exact .refl _
    · next c hc => exact writeDeparted (List.mem_of_find?_eq_some hc)
  · exact .refl s

/-! ### Requests -/

theorem takeConfigure (tag : Tag) (x : ConfigRecord) (s : State) : WindowKept s (s.takeConfigure tag x) := by
  have lanes : WindowKept s (s.reconfigureLanes x.laneMask x.role x.localEpoch) := .trans .of_blocks (judgeLink _)
  exact .ite (fun _ => (lanes.trans .of_blocks).trans (postReserved _ _)) fun _ => postReserved _ s

theorem takeOpen (i : StreamId) (tag : Tag) (s : State) : WindowKept s (s.takeOpen i tag) := by
  unfold State.takeOpen
  split
  · next h =>
    refine .of_window fun hs => ?_
    have gone : s.NoContext i := hs.noContext (by simp [StreamRecord.Receives, h])
    have gone' : (s.resetSequences i).NoContext i := gone
    exact ((resetSequences gone).trans (restate (.inl gone'))).trans (sendSync i _)
  · exact postReserved _ s

/-- A CLOSE cancels an opening, whose stream holds no context yet (R16). -/
theorem cancelOpening (h : s.NoContext i) : WindowKept s (s.cancelOpening i) := by
  have stopped : WindowKept s (s.setStream i { s.stream i with syncTimer := .stopped }) := setStream rfl
  have failed (u : State) (hu : u.NoContext i) :
      WindowKept u (((u.failList i .closedLocally).releaseBuffers i).enterReleasing i .closed) := by
    have gone : ((u.failList i .closedLocally).releaseBuffers i).NoContext i := by
      simpa [State.NoContext, State.releaseBuffers] using hu
    exact ((failList i _ u).trans (releaseBuffers i _)).trans (enterReleasing gone _)
  refine (stopped.trans (finishOpen i .cancelled _)).trans (failed _ ?_)
  rwa [State.NoContext, State.finishOpen_re]

theorem takeClose (i : StreamId) (tag : Tag) (mode : CloseMode) (s : State) : WindowKept s (s.takeClose i tag mode) := by
  have taken : WindowKept s (s.addClose i tag mode) := setStream rfl
  have closed (u : State) : WindowKept u (u.closeNow i) := (failList i _ u).trans (endStream i _ _ _)
  unfold State.takeClose
  dsimp only
  split
  · next h =>
    refine .of_window fun hs => taken.trans (cancelOpening ?_)
    exact hs.noContext (by simp [StreamRecord.Receives, h])
  · exact (taken.trans (restate (.inr (.inr rfl)))).trans (endDrainIfEmpty i _)
  · exact taken.trans (closed _)
  · exact taken.trans (closed _)
  · next h =>
    refine .of_window fun hs => (taken.trans (releaseBuffers i _)).trans (enterReleasing ?_ _)
    exact hs.noContext (by simp [StreamRecord.Receives, h])
  · exact postReserved _ s

theorem takeSend (i : StreamId) (tag : Tag) (a : HostAddr) (n : Nat) (s : State) : WindowKept s (s.takeSend i tag a n) := by
  unfold State.takeSend
  split
  · exact postReserved _ s
  · exact .of_blocks

theorem takePost (i : StreamId) (tag : Tag) (a : HostAddr) (n : Nat) (s : State) : WindowKept s (s.takePost i tag a n) := by
  have listed (l : List Buffer) : WindowKept s (s.setRxs i { s.rxs i with bufferList := l }) := setRxs (.inr rfl)
  unfold State.takePost
  split
  · exact postReserved _ s
  · exact (listed _).trans (postReserved _ _)

theorem takeFence (tag : Tag) (scope : FenceScope) (s : State) : WindowKept s (s.takeFence tag scope) :=
  .ite (fun _ => postReserved _ s) fun _ => .ite (fun _ => postReserved _ s) fun _ => .of_blocks

theorem takeQueryStream (i : StreamId) (tag : Tag) (clear : Bool) (s : State) :
    WindowKept s (s.takeQueryStream i tag clear) := by
  have cleared (u : State) : WindowKept u (u.clearStreamCounters i) := (setTxs i _ u).trans (setRxs (.inr rfl))
  exact .ite (fun _ => (postReserved _ s).trans (cleared _)) fun _ => postReserved _ s

theorem takeQueryLink (tag : Tag) (clear : Bool) (s : State) : WindowKept s (s.takeQueryLink tag clear) :=
  .ite (fun _ => (postReserved _ s).trans .of_blocks) fun _ => postReserved _ s

theorem dispatch (tag : Tag) (r : Request) (s : State) : WindowKept s (s.dispatch tag r) := by
  cases r with
  | configure => exact takeConfigure tag _ s
  | openStream i => exact takeOpen i tag s
  | closeStream i mode => exact takeClose i tag mode s
  | send i a n => exact takeSend i tag a n s
  | post i a n => exact takePost i tag a n s
  | fence scope => exact takeFence tag scope s
  | queryStream i clear => exact takeQueryStream i tag clear s
  | queryLink clear => exact takeQueryLink tag clear s

theorem processRecord (r : RequestRecord) (s : State) : WindowKept s (s.processRecord r) := by
  unfold State.processRecord
  split
  · exact postReserved _ s
  · exact .ite (fun _ => dispatch _ _ s) fun _ => postReserved _ s

theorem completeRecordRead (r : RequestRecord) (s : State) : WindowKept s (s.completeRecordRead r) := by
  have dropped (id : Nat) : WindowKept s (s.dropRead id) := .of_blocks
  have advanced (u : State) : WindowKept u u.advanceRing := .of_blocks
  unfold State.completeRecordRead
  split
  · exact .refl s
  · refine (dropped _).trans (.ite (fun _ => .refl _) fun _ => ?_)
    split
    · exact (advanced _).trans (processRecord r _)
    · exact .of_blocks
    · exact .refl _

theorem receiveRecordData (data : List Byte) (s : State) : WindowKept s (s.receiveRecordData data) := by
  unfold State.receiveRecordData
  split
  · exact .refl s
  · exact .ite (fun _ => completeRecordRead _ s) fun _ => .of_blocks

end WindowKept

/-! ### Every command -/

/-- Every command keeps the law of the contexts. -/
theorem exec_windowKept (x : Instr) (s : State) : ∃ t, exec x s = .next t ∧ WindowKept s t := by
  cases x with
  | portReset => exact ⟨_, rfl, .resetWith _ _ s⟩
  | softReset => exact ⟨_, rfl, .resetWith _ _ s⟩
  | enableSet ie => exact ⟨_, rfl, .writeControl _ _ s⟩
  | enableClear ie => exact ⟨_, rfl, .writeControl _ _ s⟩
  | intEnableWrite e ie => exact ⟨_, rfl, .writeControl _ _ s⟩
  | rqRingWrite v => exact ⟨_, rfl, .writeRqRing v s⟩
  | cqRingWrite v => exact ⟨_, rfl, .writeCqRing v s⟩
  | rqTailWrite v => exact ⟨_, rfl, .of_blocks⟩
  | cqHeadWrite v => exact ⟨_, rfl, .writeCqHead v s⟩
  | registerWrite offset size v => exact ⟨_, rfl, .writeRegister offset size v s⟩
  | configure => exact ⟨_, rfl, .completeRecordRead _ s⟩
  | openStream => exact ⟨_, rfl, .completeRecordRead _ s⟩
  | closeStream => exact ⟨_, rfl, .completeRecordRead _ s⟩
  | send => exact ⟨_, rfl, .completeRecordRead _ s⟩
  | post => exact ⟨_, rfl, .completeRecordRead _ s⟩
  | fence => exact ⟨_, rfl, .completeRecordRead _ s⟩
  | queryStream => exact ⟨_, rfl, .completeRecordRead _ s⟩
  | queryLink => exact ⟨_, rfl, .completeRecordRead _ s⟩
  | reservationGrant => exact ⟨_, rfl, .ite (fun _ => .grantReservation s) fun _ => .refl s⟩
  | recordReadIssue => exact ⟨_, rfl, .ite (fun _ => .issueRecordRead s) fun _ => .refl s⟩
  | recordReadComplete data => exact ⟨_, rfl, .receiveRecordData data s⟩
  | sliceReadIssue => exact ⟨_, rfl, .sliceReadIssue s⟩
  | sliceReadReturn id data => exact ⟨_, rfl, .receiveSliceData id data s⟩
  | readError id => exact ⟨_, rfl, .readErrors id s⟩
  | readTimeout id => exact ⟨_, rfl, .readTimesOut id s⟩
  | forgottenReadReturn id => exact ⟨_, rfl, .of_blocks⟩
  | forgottenReadExpiry id => exact ⟨_, rfl, .of_blocks⟩
  | slicerSlotFill => exact ⟨_, rfl, .slotFill s⟩
  | unitPlacement => exact ⟨_, rfl, .placement s⟩
  | laneUnitTransmit l => exact ⟨_, rfl, .transmit l s⟩
  | alignReceived l role epoch ready =>
    exact ⟨_, rfl, .ite (fun _ => .hearBad l s) fun _ => .hearAlign l role epoch ready s⟩
  | badUnitReceived l => exact ⟨_, rfl, .hearBad l s⟩
  | idleReceived l => exact ⟨_, rfl, .hearUnit .refl⟩
  | silenceTimerExpiry l => exact ⟨_, rfl, .silence l s⟩
  | sliceReceived l => exact ⟨_, rfl, .hearUnit (.sliceArrives _)⟩
  | syncReceived l i g => exact ⟨_, rfl, .hearUnit (.syncArrives i g)⟩
  | syncAckReceived l i g => exact ⟨_, rfl, .hearUnit (.syncAckArrives i g)⟩
  | syncTimerExpiry i => exact ⟨_, rfl, .syncExpiry i s⟩
  | ackReceived l i g m => exact ⟨_, rfl, .hearUnit (.applyOutcome i g m _)⟩
  | deferReceived l i g m a reason => exact ⟨_, rfl, .hearUnit (.applyDefer i g m a)⟩
  | rejectTooLongReceived l i g m => exact ⟨_, rfl, .hearUnit (.applyOutcome i g m _)⟩
  | rejectNotOpenReceived l i g m => exact ⟨_, rfl, .hearUnit (.applyNotOpen i g m)⟩
  | ackTimerExpiry i m => exact ⟨_, rfl, .ackExpiry i m s⟩
  | holdoffTimerExpiry i m => exact ⟨_, rfl, .holdoffExpiry i m s⟩
  | dataWriteDeparts => exact ⟨_, rfl, .dataWriteDeparts s⟩
  | recordWriteDeparts => exact ⟨_, rfl, .recordWriteDeparts s⟩
  | backlogMove => exact ⟨_, rfl, .backlogMove s⟩
  | interruptMessage msi => exact ⟨_, rfl, .interruptMessage msi s⟩
  | linkEventGrant => exact ⟨_, rfl, .linkEventGrant s⟩
  | streamEventGrant => exact ⟨_, rfl, .streamEventGrant s⟩
  | releaseListGrant => exact ⟨_, rfl, .releaseListGrant s⟩

/-- Settles O52: whatever command a step takes is `WindowKept`. -/
theorem stepKeepsContextsInWindow : Obligations.StepKeepsContextsInWindow := by
  intro s t hs h
  unfold step at h
  split at h
  · exact Host.Outcome.next.inj h ▸ hs
  · next x q _ =>
    obtain ⟨u, hu, hkept⟩ := exec_windowKept x { s with pending := q }
    obtain rfl := Host.Outcome.next.inj (hu.symm.trans h)
    exact hkept.keeps hs

end Sys2Proof.Machine

namespace Sys2Proof.Machine

set_option Elab.async false -- one thread for each lemma would need more memory than the check allows

/-! ### Departures of data writes -/

section
variable {s : State} {i : StreamId} {m : Msn} {n : Nat} {c : ReContext}

theorem State.contextOf_some (h : s.contextOf n = some c) : c ∈ s.re.contexts ∧ c.occupancy = n :=
  ⟨List.mem_of_find?_eq_some h, by simpa using List.find?_some h⟩

theorem State.contextFor_some (h : s.contextFor i m = some c) : c ∈ s.re.contexts ∧ c.stream = i ∧ c.msn = m :=
  ⟨List.mem_of_find?_eq_some h, by simpa using List.find?_some h⟩

end

theorem State.setRxs_produceNotice (i : StreamId) (r : RxStream) (n : Notice) (s : State) :
    (s.produceNotice n).setRxs i r = (s.setRxs i r).produceNotice n := by
  rw [produceNotice_eq, produceNotice_eq]
  rfl

/-- A notice and deliveries do not touch each other. -/
theorem State.delivered_produceNotice (i : StreamId) (ds : List ReContext) (n : Notice) (s : State) :
    (s.produceNotice n).delivered i ds = (s.delivered i ds).produceNotice n := by
  rw [produceNotice_eq, produceNotice_eq]
  rfl

/-- A delivery check after a notice delivers what it would have delivered before (R85). -/
theorem State.deliveryCheck_produceNotice {s : State} (hs : ContextsInWindow s) (i : StreamId) (n : Notice) :
    ∃ ds, DeliveryRun s i ds ∧ (s.produceNotice n).deliveryCheck i = (s.delivered i ds).produceNotice n := by
  obtain ⟨ds, hrun, heq⟩ := deliveryCheck_eq ((WindowKept.produceNotice n s).keeps hs) i
  rw [produceNotice_eq] at hrun
  exact ⟨ds, hrun, heq.trans (delivered_produceNotice i ds n s)⟩

/-- The state whose write queue has lost its head, which has left for the port (R184). -/
def State.writeGone (a : HostAddr) (payload : List Byte) (rest : List HostWrite) (s : State) : State :=
  { s with hau.writeQueue := rest, emitted := .hostWrite a payload :: s.emitted }

section
variable {s : State} {n : Nat} {a : HostAddr} {payload : List Byte} {rest : List HostWrite}

/-- A data write whose occupancy has ended departs and changes no context (R82). -/
theorem State.dataWriteDeparts_ended (hq : s.hau.writeQueue = .data n a payload :: rest) (hc : s.contextOf n = none) :
    s.dataWriteDeparts = s.writeGone a payload rest := by
  simp only [dataWriteDeparts, hq]
  split
  · rfl
  · next d hd => cases hc.symm.trans hd

/-- A data write whose occupancy stands departs and tells its context (R82). -/
theorem State.dataWriteDeparts_standing {c : ReContext} (hq : s.hau.writeQueue = .data n a payload :: rest)
    (hc : s.contextOf n = some c) : s.dataWriteDeparts = (s.writeGone a payload rest).writeDeparted c := by
  simp only [dataWriteDeparts, hq]
  split
  · next hd => cases hc.symm.trans hd
  · next d hd =>
    obtain rfl := Option.some.inj (hc.symm.trans hd)
    rfl

end

section
variable {s : State} {c : ReContext}

/-- A departure that is not the context's last lowers its count alone (R82). -/
theorem State.writeDeparted_more (h : 1 < c.writesOutstanding) :
    s.writeDeparted c = s.setContext { c with writesOutstanding := c.writesOutstanding - 1 } :=
  if_neg (by omega)

/-- The last write of an ASSEMBLING context: more slices are still to come (R82). -/
theorem State.writeDeparted_assembling (h : c.writesOutstanding = 1) (hc : c.state = .assembling) :
    s.writeDeparted c = s.setContext { c with writesOutstanding := 0 } := by
  simp only [writeDeparted, h, Nat.sub_self, if_true, hc]

/-- The last write of an OVERSIZE context makes it ready (R83, R85). -/
theorem State.writeDeparted_oversize (hs : ContextsInWindow s) (hmem : c ∈ s.re.contexts)
    (h : c.writesOutstanding = 1) (hc : c.state = .oversize) :
    ∃ ds, DeliveryRun (s.setContext { c with writesOutstanding := 0 }) c.stream ds ∧
      s.writeDeparted c = (s.setContext { c with writesOutstanding := 0 }).delivered c.stream ds := by
  have hlast : s.writeDeparted c = (s.setContext { c with writesOutstanding := 0 }).deliveryCheck c.stream := by
    simp only [writeDeparted, h, Nat.sub_self, if_true, hc]
  rw [hlast]
  exact deliveryCheck_eq ((WindowKept.setContext hmem).keeps hs) c.stream

/-- The last write of a LANDING context completes its message, which is ACKed (R82, R85). -/
theorem State.writeDeparted_landing (hs : ContextsInWindow s) (hmem : c ∈ s.re.contexts)
    (h : c.writesOutstanding = 1) (hc : c.state = .landing) :
    ∃ ds, DeliveryRun (s.setContext { c with state := .complete, writesOutstanding := 0 }) c.stream ds ∧
      s.writeDeparted c = ((s.setContext { c with state := .complete, writesOutstanding := 0 }).delivered c.stream
        ds).produceNotice (.ack c.stream (s.stream c.stream).gen c.msn) := by
  have hlast : s.writeDeparted c = ((s.setContext { c with state := .complete, writesOutstanding := 0 }).produceNotice
      (.ack c.stream (s.stream c.stream).gen c.msn)).deliveryCheck c.stream := by
    simp only [writeDeparted, h, Nat.sub_self, if_true, hc]
  rw [hlast]
  exact deliveryCheck_produceNotice ((WindowKept.setContext hmem).keeps hs) c.stream _

end

/-- Settles O34, by whether the occupancy still stands, the writes that are left and the state of the context. -/
theorem dataWriteDeparts : Obligations.DataWriteDeparts := by
  intro s occupancy a payload rest hq gone
  constructor
  · intro hnone
    exact congrArg _ (State.dataWriteDeparts_ended hq (List.find?_eq_none.mpr fun c hc => by simpa using hnone c hc))
  · intro c hc hs i kept complete last
    obtain ⟨hmem, rfl⟩ := State.contextOf_some hc
    have told : exec .dataWriteDeparts s = .next (gone.writeDeparted c) :=
      congrArg _ (State.dataWriteDeparts_standing hq hc)
    rw [told]
    refine ⟨fun h => ?_, fun h hlanding => ?_, fun h hoversize => ?_, fun h hassembling => ?_⟩
    · exact congrArg _ (State.writeDeparted_more h)
    · obtain ⟨ds, hrun, heq⟩ := State.writeDeparted_landing (s := gone) hs hmem h hlanding
      exact ⟨ds, hrun, congrArg _ heq⟩
    · obtain ⟨ds, hrun, heq⟩ := State.writeDeparted_oversize (s := gone) hs hmem h hoversize
      exact ⟨ds, hrun, congrArg _ heq⟩
    · exact congrArg _ (State.writeDeparted_assembling h hassembling)

/-! ### Slices that are deferred -/

/-- A deferred slice is noted and counted with its DEFER, unless the note holds it already (R78). -/
theorem State.deferSlice_eq (u : SliceUnit) (reason : DeferReason) (s : State) : s.deferSlice u reason =
    if (s.stream u.stream).deferralNote = some (u.msn, u.attempt) then s
    else State.produceNotice (.defer u.stream (s.stream u.stream).gen u.msn u.attempt reason)
      ((s.setStream u.stream { s.stream u.stream with deferralNote := some (u.msn, u.attempt) }).setRxs u.stream
        { s.rxs u.stream with defersSent := satInc (s.rxs u.stream).defersSent }) := by
  simp only [deferSlice, produceNotice_stream, setStream_rxs, produceNotice_rxs, setStream_produceNotice,
    setRxs_produceNotice]

/-- A new message without a buffer, or with one but without a free context, is deferred (R77). -/
theorem State.newMessage_deferred {s : State} {u : SliceUnit}
    (h : (s.rxs u.stream).bufferList = [] ∨ 128 ≤ s.re.contexts.length) : s.newMessage u =
      s.deferSlice u (if (s.rxs u.stream).bufferList = [] then .noBuffer else .noContext) := by
  cases hb : (s.rxs u.stream).bufferList with
  | nil => simp only [newMessage, hb, if_true]
  | cons b rest =>
    have hfull : ¬s.re.contexts.length < 128 := not_lt.mpr (h.resolve_left (by simp [hb]))
    simp only [newMessage, hb, Config.contextPoolSize, hfull, reduceCtorEq, if_false]

/-- A taken slice of a message that has no context begins a new one (R77). -/
theorem State.sliceArrives_new {s : State} {u : SliceUnit} (h : s.TakesSlice u)
    (hc : s.contextFor u.stream u.msn = none) : s.sliceArrives u = s.newMessage u := by
  rw [sliceArrives_taken h, sliceInGeneration]
  refine (if_pos h.window).trans ?_
  rw [hc]

/-- Settles O32: a taken slice of a new message without buffer or context is the DEFER of `deferSlice_eq`. -/
theorem sliceIsDeferred : Obligations.SliceIsDeferred := by
  intro s l u hup hlive hgen hindex hlength hwindow hnew hshort reason
  have htakes : (s.heard l).TakesSlice u := ⟨hlive, hgen, hindex, hlength, hwindow⟩
  calc exec (.sliceReceived l u.stream u.gen u.msn u.attempt u.index u.last u.payload) s
    _ = .next ((s.heard l).newMessage u) :=
      (exec_sliceReceived hup u).trans (congrArg _ (State.sliceArrives_new htakes hnew))
    _ = .next ((s.heard l).deferSlice u reason) := congrArg _ (State.newMessage_deferred hshort)
    _ = _ := by
      rw [State.deferSlice_eq, hgen]
      rfl

end Sys2Proof.Machine

namespace Sys2Proof.Machine

set_option Elab.async false -- one thread for each lemma would need more memory than the check allows

/-! ### Slices that are not merged -/

section
variable {s : State} {u : SliceUnit} {c : ReContext}

/-- A slice of an OPEN or DRAINING stream with a possible format is judged by its generation (R72, R73). -/
theorem State.sliceArrives_onOpen (hgood : u.formatGood = true)
    (hlive : (s.stream u.stream).state = .opened ∨ (s.stream u.stream).state = .draining) :
    s.sliceArrives u = s.sliceOnOpen u := by
  rw [sliceArrives, if_pos hgood]
  obtain h | h := hlive <;> rw [h]

/-- A slice of the stream's generation outside its window is behind it, or a stray (R74, R75). -/
theorem State.sliceOnOpen_outside (hgen : u.gen = (s.stream u.stream).gen)
    (hout : 8 ≤ (u.msn - (s.rxs u.stream).rxExpected).toNat) : s.sliceOnOpen u =
      if 248 ≤ (u.msn - (s.rxs u.stream).rxExpected).toNat then s.behindWindow u else s.countStray u.stream := by
  rw [sliceOnOpen, if_pos hgen, sliceInGeneration]
  exact if_neg (not_lt.mpr hout)

/-- The notice that tells the sender of a slice the recorded outcome of its message (R75). -/
def SliceUnit.answer (u : SliceUnit) : DeliveryOutcome → Notice
  | .ack => .ack u.stream u.gen u.msn
  | .tooLong => .reject u.stream u.gen u.msn .tooLong

/-- Behind the window the recorded outcome is sent again (R75). -/
theorem State.behindWindow_told {o : DeliveryOutcome} (hgen : u.gen = (s.stream u.stream).gen)
    (h : ((s.stream u.stream).history.find? fun p => decide (p.1 = u.msn)).map Prod.snd = some o) :
    s.behindWindow u = s.produceNotice (u.answer o) := by
  obtain ⟨⟨m, o'⟩, hp, rfl⟩ := Option.map_eq_some_iff.mp h
  cases o' <;> simp only [behindWindow, hp, SliceUnit.answer, hgen]

theorem State.behindWindow_untold
    (h : ((s.stream u.stream).history.find? fun p => decide (p.1 = u.msn)).map Prod.snd = none) :
    s.behindWindow u = s.countStray u.stream := by
  simp only [behindWindow, Option.map_eq_none_iff.mp h]

/-- A taken slice of a message that has a context is handled by that context (R76). -/
theorem State.sliceArrives_forContext (h : s.TakesSlice u) (hc : s.contextFor u.stream u.msn = some c) :
    s.sliceArrives u = s.sliceForContext c u := by
  rw [sliceArrives_taken h, sliceInGeneration]
  refine (if_pos h.window).trans ?_
  rw [hc]

/-- What R79 counts as a disagreement on the message's end. -/
theorem ReContext.disagrees_iff (c : ReContext) (u : SliceUnit) : c.disagrees u = true ↔
    (u.last = true ∧ ∃ j < 64, u.index.toNat < j ∧ c.received.getLsbD j = true) ∨
      ∃ j n, c.lastSlice = some (j, n) ∧ ((u.last = true ∧ j ≠ u.index.toNat) ∨ (u.last = false ∧ j < u.index.toNat)) := by
  cases hl : c.lastSlice with
  | none => cases hu : u.last <;> simp [disagrees, hasAbove, hu, hl]
  | some p =>
    obtain ⟨j, n⟩ := p
    cases hu : u.last <;> simp [disagrees, hasAbove, hu, hl]

/-! An ASSEMBLING context checks a slice in the order of R79 to R81. -/

theorem State.mergeSlice_held (h : c.received.getLsbD u.index.toNat = true) : s.mergeSlice c u = s := if_pos h

theorem State.mergeSlice_disagrees (h : ¬c.received.getLsbD u.index.toNat = true) (hd : c.disagrees u = true) :
    s.mergeSlice c u = s.countStray c.stream := (if_neg h).trans (if_pos hd)

theorem State.mergeSlice_overflows (h : ¬c.received.getLsbD u.index.toNat = true) (hd : ¬c.disagrees u = true)
    (hf : ¬256 * u.index.toNat + u.payload.length ≤ c.buffer.capacity) : s.mergeSlice c u = s.oversize c :=
  (if_neg h).trans ((if_neg hd).trans (if_pos (decide_eq_true (not_le.mp hf))))

theorem State.mergeSlice_full (h : ¬c.received.getLsbD u.index.toNat = true) (hd : ¬c.disagrees u = true)
    (hf : 256 * u.index.toNat + u.payload.length ≤ c.buffer.capacity) (hw : 16 ≤ s.hau.writeQueue.length) :
    s.mergeSlice c u = s := by
  have hover : ¬c.overflows u = true := fun ho => absurd hf (not_le.mpr (of_decide_eq_true ho))
  have hroom : ¬s.writeRoom = true := fun hr => absurd hw (not_le.mpr (of_decide_eq_true hr))
  exact (if_neg h).trans ((if_neg hd).trans ((if_neg hover).trans (if_neg hroom)))

/-- A slice that does not fit makes its context OVERSIZE and draws the REJECT; the delivery check follows if no written
data is outstanding (R80, R83, R85). -/
theorem State.oversize_eq (hs : ContextsInWindow s) (hmem : c ∈ s.re.contexts) :
    let v := s.setContext { c with state := .oversize }
    let reject : Notice := .reject c.stream (s.stream c.stream).gen c.msn .tooLong
    (c.writesOutstanding ≠ 0 → s.oversize c = v.produceNotice reject) ∧
    (c.writesOutstanding = 0 → ∃ ds, DeliveryRun v c.stream ds ∧
      s.oversize c = (v.delivered c.stream ds).produceNotice reject) := by
  refine ⟨fun h => if_neg h, fun h => ?_⟩
  have hchecked : s.oversize c = ((s.setContext { c with state := .oversize }).produceNotice
      (.reject c.stream (s.stream c.stream).gen c.msn .tooLong)).deliveryCheck c.stream := if_pos h
  rw [hchecked]
  exact deliveryCheck_produceNotice ((WindowKept.setContext hmem).keeps hs) c.stream _

end

/-- Settles O33, in the order of the checks of R72 to R81: format, stream state, generation, window, the state of the
message's context, and what an ASSEMBLING context finds. -/
theorem sliceIsAnsweredOrDropped : Obligations.SliceIsAnsweredOrDropped := by
  intro s l u hup r rx d good taken arrives stray answer told
  have harrives : arrives = .next ((s.heard l).sliceArrives u) := exec_sliceReceived hup u
  have hformat : u.formatGood = true ↔ good := u.formatGood_iff
  have onOpen (ht : taken) : arrives = .next ((s.heard l).sliceOnOpen u) :=
    harrives.trans (congrArg _ (State.sliceArrives_onOpen (hformat.mpr ht.1) ht.2))
  have outside (ht : taken) (hg : u.gen = r.gen) (hd : 8 ≤ d) : arrives = .next (if 248 ≤ d then (s.heard l).behindWindow u
      else stray) := (onOpen ht).trans (congrArg _ (State.sliceOnOpen_outside hg hd))
  have behind (ht : taken) (hg : u.gen = r.gen) (hd : 248 ≤ d) : arrives = .next ((s.heard l).behindWindow u) := by
    rw [outside ht hg (by omega), if_pos hd]
  refine ⟨fun hg => ?_, fun hg hr => ?_, fun hg hr => ?_, fun ht hg => ?_, fun ht hg h8 h248 => ?_, fun ht hg hd hn => ?_,
    fun ht hg hd hn => ?_, fun ht hg hd hn => ?_, fun c ht hg hd hc => ?_⟩
  · rw [harrives, State.sliceArrives, if_neg (mt hformat.mp hg)]
    rfl
  · rw [harrives, State.sliceArrives, if_pos (hformat.mpr hg)]
    obtain h | h | h := hr <;> rw [State.heard_stream, h]
  · rw [harrives, State.sliceArrives, if_pos (hformat.mpr hg), State.heard_stream, hr]
  · rw [onOpen ht, State.sliceOnOpen]
    exact congrArg _ (if_neg hg)
  · rw [outside ht hg h8, if_neg (not_le.mpr h248)]
  · exact (behind ht hg hd).trans (congrArg _ (State.behindWindow_untold hn))
  · exact (behind ht hg hd).trans (congrArg _ (State.behindWindow_told (s := s.heard l) hg hn))
  · exact (behind ht hg hd).trans (congrArg _ (State.behindWindow_told (s := s.heard l) hg hn))
  · obtain ⟨hmem, hstream, hmsn⟩ := State.contextFor_some hc
    obtain ⟨⟨hindex, hlength⟩, hlive⟩ := ht
    have htakes : (s.heard l).TakesSlice u := ⟨hlive, hg, hindex, hlength, hd⟩
    have handled : arrives = .next ((s.heard l).sliceForContext c u) :=
      harrives.trans (congrArg _ (State.sliceArrives_forContext htakes hc))
    have hgen : u.gen = ((s.heard l).stream c.stream).gen := by rw [hg, hstream]; rfl
    refine ⟨fun hx => ?_, fun hx => ?_, fun hx => ?_, fun hx => ?_⟩
    · rw [handled, State.sliceForContext, hx]
    · rw [handled, State.sliceForContext, hx, ← hgen, hstream, hmsn]
    · rw [handled, State.sliceForContext, hx, ← hgen, hstream, hmsn]
    · intro k held disagrees fits
      have merges : arrives = .next ((s.heard l).mergeSlice c u) := by rw [handled, State.sliceForContext, hx]
      have hends : c.disagrees u = true ↔ disagrees := c.disagrees_iff u
      refine ⟨fun hh => ?_, fun hh hd => ?_, fun hh hd hf hs => ?_, fun hh hd hf hw => ?_⟩
      · rw [merges, State.mergeSlice_held hh]
      · rw [merges, State.mergeSlice_disagrees hh (hends.mpr hd), hstream]
        rfl
      · rw [merges, State.mergeSlice_overflows hh (mt hends.mp hd) hf, hgen, ← hstream, ← hmsn]
        obtain ⟨hwaits, hchecks⟩ := State.oversize_eq (s := s.heard l) hs hmem
        refine ⟨fun hw => congrArg _ (hwaits hw), fun hw => ?_⟩
        obtain ⟨ds, hrun, heq⟩ := hchecks hw
        exact ⟨ds, hrun, congrArg _ heq⟩
      · rw [merges, State.mergeSlice_full (s := s.heard l) hh (mt hends.mp hd) hf hw]

end Sys2Proof.Machine

namespace Sys2Proof.Machine

set_option Elab.async false -- one thread for each lemma would need more memory than the check allows

/-! ### What leaves the Fence Table alone

The Fence Table changes when a FENCE is taken, when an entry retires and at a reset (R97). Every other operation that a
command is made of leaves it as it is. -/

section
variable (s : State) (i : StreamId) (l : LaneId)

/-! Postings, notices and the link. -/

@[simp] theorem State.judgeInterrupt_ft (before : Bool) : (State.judgeInterrupt before s).ft = s.ft := by
  obtain ⟨o, ho⟩ := judgeInterrupt_eq before s
  rw [ho]

@[simp] theorem State.postRecord_ft (c : Completion) : (s.postRecord c).ft = s.ft := by rw [postRecord_eq]; rfl

@[simp] theorem State.postReserved_ft (c : Completion) : (s.postReserved c).ft = s.ft := by
  rw [postReserved_eq, withPosted_ft]

@[simp] theorem State.sendSync_ft : (s.sendSync i).ft = s.ft := by simp [sendSync]

@[simp] theorem State.transmitLinkUp_ft : s.transmitLinkUp.ft = s.ft := by unfold transmitLinkUp; split <;> rfl

@[simp] theorem State.transmitLinkDown_ft : s.transmitLinkDown.ft = s.ft := by simp only [transmitLinkDown]

@[simp] theorem State.judgeLink_ft : s.judgeLink.ft = s.ft := by
  unfold judgeLink
  split
  · exact transmitLinkUp_ft { s with lm.linkState := .up }
  · exact transmitLinkDown_ft { s with lm.linkState := .down, lm.noticeQueue := [] }
  · rfl

@[simp] theorem State.seekLane_ft : (s.seekLane l).ft = s.ft := judgeLink_ft _

@[simp] theorem State.hearBad_ft : (s.hearBad l).ft = s.ft := by
  unfold hearBad
  split
  · rfl
  · dsimp only
    split
    · rfl
    · rfl
    · split <;> simp

@[simp] theorem State.silence_ft : (s.silence l).ft = s.ft := by
  unfold silence
  split
  · rfl
  · split <;> simp

@[simp] theorem State.seekingAlign_ft (role : Role) : (s.seekingAlign l role).ft = s.ft := by
  unfold seekingAlign
  dsimp only
  split
  · rfl
  · split <;> rfl

@[simp] theorem State.transmit_ft : (s.transmit l).ft = s.ft := by
  unfold transmit
  split
  · rfl
  · rfl
  · rfl
  · split <;> rfl

@[simp] theorem State.reconfigureLanes_ft (mask : BitVec 4) (role : Role) (epoch : Byte) :
    (s.reconfigureLanes mask role epoch).ft = s.ft := judgeLink_ft _

/-! Reads, slicer slots and timers. -/

@[simp] theorem State.halt_ft (cause : HaltCause) (a : HostAddr) : (s.halt cause a).ft = s.ft := judgeInterrupt_ft _ _

@[simp] theorem State.readErrors_ft (id : Nat) : (s.readErrors id).ft = s.ft := by
  unfold readErrors
  split
  · rfl
  · split
    · rfl
    · exact halt_ft _ _ _

@[simp] theorem State.readTimesOut_ft (id : Nat) : (s.readTimesOut id).ft = s.ft := by
  unfold readTimesOut
  split
  · rfl
  · split
    · rfl
    · split <;> simp

@[simp] theorem State.sliceReadIssue_ft : s.sliceReadIssue.ft = s.ft := by
  unfold sliceReadIssue
  split
  · split
    · rfl
    · split
      · rfl
      · split <;> rfl
  · rfl

@[simp] theorem State.fillWaiting_ft (k : SlotId) (o n : Nat) (data : List Byte) :
    (s.fillWaiting k o n data).ft = s.ft := by
  unfold fillWaiting
  split
  · rfl
  · split
    · rfl
    · split <;> rfl

@[simp] theorem State.receiveSliceData_ft (id : Nat) (data : List Byte) : (s.receiveSliceData id data).ft = s.ft := by
  unfold receiveSliceData
  split
  · rfl
  · split
    · rfl
    · split
      · exact fillWaiting_ft _ _ _ _ _
      · rfl

@[simp] theorem State.slotFill_ft : s.slotFill.ft = s.ft := by
  unfold slotFill
  split
  · split
    · split <;> rfl
    · rfl
  · rfl

@[simp] theorem State.acceptSlice_ft (k : SlotId) (w : SlotWork) (e : SendEntry) (data : List Byte) :
    (s.acceptSlice l k w e data).ft = s.ft := by
  unfold acceptSlice
  dsimp only
  split <;> rfl

@[simp] theorem State.placement_ft : s.placement.ft = s.ft := by
  unfold placement
  split
  · rfl
  · split
    · rfl
    · split
      · rfl
      · split
        · rfl
        · split
          · rfl
          · split <;> simp

@[simp] theorem State.syncExpiry_ft : (s.syncExpiry i).ft = s.ft := by
  unfold syncExpiry
  split
  · rfl
  · split <;> simp

@[simp] theorem State.applyDefer_ft (g : Gen) (m : Msn) (a : Attempt) : (s.applyDefer i g m a).ft = s.ft := by
  unfold applyDefer
  split
  · rfl
  · split <;> rfl

@[simp] theorem State.holdoffExpiry_ft (m : Msn) : (s.holdoffExpiry i m).ft = s.ft := by
  unfold holdoffExpiry
  split
  · rfl
  · split
    · rfl
    · split <;> rfl

/-! The write queue. -/

@[simp] theorem State.backlogMove_ft : s.backlogMove.ft = s.ft := by
  unfold backlogMove
  split
  · rfl
  · split <;> rfl

@[simp] theorem State.recordWriteDeparts_ft : s.recordWriteDeparts.ft = s.ft := by
  unfold recordWriteDeparts
  split <;> rfl

@[simp] theorem State.interruptMessage_ft (msi : Bool) : (s.interruptMessage msi).ft = s.ft := by
  unfold interruptMessage
  split
  · dsimp only
    split <;> rfl
  · rfl

/-! The Receive Engine. -/

@[simp] theorem State.deliverUpTo_ft (n : Nat) : (s.deliverUpTo i n).ft = s.ft := by
  induction n generalizing s with
  | zero => rfl
  | succ n ih =>
    unfold deliverUpTo
    split
    · rfl
    · exact ih _

@[simp] theorem State.deliveryCheck_ft : (s.deliveryCheck i).ft = s.ft := deliverUpTo_ft _ _ _

@[simp] theorem State.setContext_ft (c : ReContext) : (s.setContext c).ft = s.ft := rfl

@[simp] theorem State.oversize_ft (c : ReContext) : (s.oversize c).ft = s.ft := by
  unfold oversize
  dsimp only
  split <;> simp

@[simp] theorem State.mergeSlice_ft (c : ReContext) (u : SliceUnit) : (s.mergeSlice c u).ft = s.ft := by
  unfold mergeSlice
  split
  · rfl
  · split
    · rfl
    · split
      · exact oversize_ft _ _
      · split <;> rfl

@[simp] theorem State.deferSlice_ft (u : SliceUnit) (reason : DeferReason) : (s.deferSlice u reason).ft = s.ft := by
  unfold deferSlice
  dsimp only
  split <;> simp

@[simp] theorem State.newMessage_ft (u : SliceUnit) : (s.newMessage u).ft = s.ft := by
  unfold newMessage
  split
  · exact deferSlice_ft _ _ _
  · split
    · exact mergeSlice_ft _ _ _
    · exact deferSlice_ft _ _ _

@[simp] theorem State.sliceForContext_ft (c : ReContext) (u : SliceUnit) : (s.sliceForContext c u).ft = s.ft := by
  unfold sliceForContext
  split <;> simp

@[simp] theorem State.behindWindow_ft (u : SliceUnit) : (s.behindWindow u).ft = s.ft := by
  unfold behindWindow
  split
  · exact produceNotice_ft _ _
  · exact produceNotice_ft _ _
  · rfl

@[simp] theorem State.sliceOnOpen_ft (u : SliceUnit) : (s.sliceOnOpen u).ft = s.ft := by
  unfold sliceOnOpen sliceInGeneration
  split
  · dsimp only
    split
    · split <;> simp
    · split
      · exact behindWindow_ft _ _
      · rfl
  · rfl

@[simp] theorem State.sliceArrives_ft (u : SliceUnit) : (s.sliceArrives u).ft = s.ft := by
  unfold sliceArrives
  split
  · split <;> simp
  · rfl

@[simp] theorem State.writeDeparted_ft (c : ReContext) : (s.writeDeparted c).ft = s.ft := by
  unfold writeDeparted
  dsimp only
  split
  · split <;> simp
  · rfl

@[simp] theorem State.dataWriteDeparts_ft : s.dataWriteDeparts.ft = s.ft := by
  unfold dataWriteDeparts
  split
  · dsimp only
    split
    · rfl
    · exact writeDeparted_ft _ _
  · rfl

end

end Sys2Proof.Machine

namespace Sys2Proof.Machine

set_option Elab.async false -- one thread for each lemma would need more memory than the check allows

/-! ### What keeps the pending fences awaiting a retirement

The law of R97 speaks of the Fence Table and of the lengths of the transmit lists alone. `FencesKept` composes the
shared operations of a command. A list grows by a SEND and shrinks by retirements, each of which lowers the counts that
its stream still holds (R100); between the two the list is already shorter while its retirements are yet to be reported,
which `State.FencesOwed` describes. -/

/-- From `s` to `t` the law of the pending fences is kept (R97, R101). -/
structure FencesKept (s t : State) : Prop where
  keeps : FencesAwait s → FencesAwait t

/-- Entries have left the list of stream `i`, and `k` of their retirements are yet to be reported: a pending fence may
await those too (R47, R100). -/
def State.FencesOwed (i : StreamId) (k : Nat) (s : State) : Prop :=
  ∀ r ∈ s.ft, r.settled = false ∧
    ∀ j : StreamId, r.remaining[j] ≤ (s.txs j).list.length + if j = i then k else 0

section
variable {s t u : State} {i : StreamId} {k : Nat}

namespace FencesKept

theorem refl (s : State) : FencesKept s s := ⟨id⟩

theorem trans (h : FencesKept s t) (h' : FencesKept t u) : FencesKept s u := ⟨h'.keeps ∘ h.keeps⟩

theorem ite {p : Prop} [Decidable p] {a b : State} (ha : p → FencesKept s a) (hb : ¬p → FencesKept s b) :
    FencesKept s (if p then a else b) := by
  split
  · next h => exact ha h
  · next h => exact hb h

/-- The fences stay and no list is shorter. -/
theorem of_lists (lists : ∀ j, (s.txs j).list.length ≤ (t.txs j).list.length) (ft : t.ft = s.ft := by rfl) :
    FencesKept s t := by
  refine ⟨fun h r hr => ?_⟩
  obtain ⟨hopen, hcounts⟩ := h r (ft ▸ hr)
  exact ⟨hopen, fun j => (hcounts j).trans (lists j)⟩

/-- The fences and the lists stay. -/
theorem of_blocks (te : t.te.tx = s.te.tx := by rfl) (ft : t.ft = s.ft := by rfl) : FencesKept s t :=
  .of_lists (fun j => by simp only [State.txs, te, le_rfl]) ft

/-- A routine event changes no list's length. -/
theorem of_routine (h : Routine s t) (ft : t.ft = s.ft := by rfl) : FencesKept s t :=
  .of_lists (fun j => (h.accounts.lists j).ge) ft

theorem setTxs {x : TxStream} (h : (s.txs i).list.length ≤ x.list.length) : FencesKept s (s.setTxs i x) := by
  refine .of_lists fun j => ?_
  by_cases hj : j = i
  · subst hj
    simpa using h
  · rw [State.setTxs_txs_ne _ _ _ _ hj]

end FencesKept

/-! ### Retirement -/

theorem State.fencesOwed_zero : s.FencesOwed i 0 ↔ FencesAwait s := by simp [FencesOwed, FencesAwait]

/-- Entries that leave a list are owed to the fences (R47). -/
theorem FencesAwait.owed {l : List SendEntry} (h : FencesAwait s) (hl : (s.txs i).list.length ≤ l.length + k) :
    (s.setList i l).FencesOwed i k := by
  intro r hr
  obtain ⟨hopen, hcounts⟩ := h r hr
  refine ⟨hopen, fun j => (hcounts j).trans ?_⟩
  by_cases hj : j = i
  · subst hj
    simpa [State.setList] using hl
  · simp [State.setList, State.setTxs_txs_ne _ _ _ _ hj]

/-- A retirement lowers the count of its stream, unless it is 0, and no other (R100). -/
theorem FenceRecord.count_remaining (i j : StreamId) (failed : Bool) (r : FenceRecord) :
    (r.count i failed).remaining[j] = if j = i then r.remaining[j] - 1 else r.remaining[j] := by
  by_cases h : 0 < r.remaining[i]
  · rw [count, if_pos h]
    by_cases hj : j = i
    · subst hj
      simp
    · have hne : i.val ≠ j.val := fun e => hj (Fin.ext e.symm)
      simp [hj, Vector.getElem_set_ne _ _ hne]
  · rw [count_settled_of_zero h]
    split
    · next hj => subst hj; omega
    · rfl

/-- The fences still pending after a retirement, each with the retirement counted (R100, R101). -/
theorem State.reportRetirement_ft (i : StreamId) (failed : Bool) (s : State) : (s.reportRetirement i failed).ft =
    (s.ft.filter fun r => !r.completesAt i failed).map (FenceRecord.count i failed) := by
  simp only [reportRetirement, postFences_eq, withPosted_ft]

@[simp] theorem State.reportRetirement_txs (i j : StreamId) (failed : Bool) (s : State) :
    (s.reportRetirement i failed).txs j = s.txs j := by
  simp only [reportRetirement, postFences_eq, withPosted_txs]
  rfl

namespace State.FencesOwed

/-- A report pays one of the retirements owed; the fences it settles leave the list (R100, R101). -/
theorem reportRetirement (h : s.FencesOwed i (k + 1)) (failed : Bool) :
    (s.reportRetirement i failed).FencesOwed i k := by
  intro counted hcounted
  rw [State.reportRetirement_ft] at hcounted
  obtain ⟨r, hr, rfl⟩ := List.mem_map.mp hcounted
  obtain ⟨hmem, hleft⟩ := List.mem_filter.mp hr
  obtain ⟨hopen, hcounts⟩ := h r hmem
  rw [FenceRecord.completesAt_iff hopen] at hleft
  refine ⟨by simpa using hleft, fun j => ?_⟩
  have hj := hcounts j
  rw [FenceRecord.count_remaining, State.reportRetirement_txs]
  split at hj
  · next e => rw [if_pos e, if_pos e]; omega
  · next e => rw [if_neg e, if_neg e]; exact hj

theorem retireEntry (h : s.FencesOwed i (k + 1)) (e : SendEntry) : (s.retireEntry i e).FencesOwed i k := by
  refine reportRetirement (fun r hr => ?_) _
  rw [State.postDone, State.postReserved_eq] at hr ⊢
  simpa using h r (by simpa using hr)

/-- All that a stream owes is reported (R47, R49). -/
theorem retireAll {es : List SendEntry} (h : s.FencesOwed i es.length) : FencesAwait (s.retireAll i es) := by
  unfold State.retireAll
  induction es generalizing s with
  | nil => exact State.fencesOwed_zero.mp h
  | cons e es ih => exact ih (h.retireEntry e)

end State.FencesOwed

namespace FencesKept

theorem withPosted (cs : List Completion) (s : State) : FencesKept s (s.withPosted cs) :=
  .of_blocks (by rw [State.withPosted_te]) (by simp)

theorem postReserved (c : Completion) (s : State) : FencesKept s (s.postReserved c) := by
  rw [State.postReserved_eq]
  exact withPosted _ s

theorem postRecord (c : Completion) (s : State) : FencesKept s (s.postRecord c) :=
  .of_blocks (by rw [State.postRecord_eq]; rfl) (by simp)

theorem postDone (kind : RequestKind) (i : StreamId) (tag : Tag) (x : Status) (b : DoneBody) (s : State) :
    FencesKept s (s.postDone kind i tag x b) := postReserved _ s

/-- A list fails: its entries leave it, and each retires (R49). -/
theorem failList (i : StreamId) (cause : ListFailure) (s : State) : FencesKept s (s.failList i cause) := by
  refine ⟨fun h => State.FencesOwed.retireAll ?_⟩
  have freed : FencesAwait (s.freeSlotsOfStream i) := h
  exact freed.owed (by rw [List.length_map, List.length_nil, Nat.zero_add]; rfl)

/-- The finished entries at the head leave the list, and each retires (R46, R47). -/
theorem retireHeads (i : StreamId) (s : State) : FencesKept s (s.retireHeads i) := by
  refine ⟨fun h => State.FencesOwed.retireAll (h.owed ?_)⟩
  have hparts := congrArg List.length (List.takeWhile_append_dropWhile (p := SendEntry.finished) (l := (s.txs i).list))
  rw [List.length_append] at hparts
  rw [TxStream.finishedHead]
  omega

/-! ### The ends of streams -/

theorem setStream (r : StreamRecord) : FencesKept s (s.setStream i r) := .of_blocks

theorem closeIfReleased (i : StreamId) (s : State) : FencesKept s (s.closeIfReleased i) := by
  rw [State.closeIfReleased_eq]
  exact .ite (fun _ => (setStream _).trans (withPosted _ _)) fun _ => .refl s

theorem enterReleasing (i : StreamId) (cause : ReleaseCause) (s : State) : FencesKept s (s.enterReleasing i cause) :=
  (setStream _).trans (closeIfReleased i _)

theorem flush (i : StreamId) (reason : ReturnReason) (s : State) : FencesKept s (s.flush i reason) := .of_blocks

theorem releaseBuffers (i : StreamId) (s : State) : FencesKept s (s.releaseBuffers i) := .of_blocks

/-- A flush, the release of the buffer list and the entry to RELEASING (R14, R15, R20). -/
theorem endStream (i : StreamId) (reason : ReturnReason) (cause : ReleaseCause) (s : State) :
    FencesKept s (((s.flush i reason).releaseBuffers i).enterReleasing i cause) :=
  ((flush i reason s).trans (releaseBuffers i _)).trans (enterReleasing i cause _)

theorem endDrainIfEmpty (i : StreamId) (s : State) : FencesKept s (s.endDrainIfEmpty i) :=
  .ite (fun _ => endStream i _ _ s) fun _ => .refl s

theorem retire (i : StreamId) (s : State) : FencesKept s (s.retire i) :=
  .ite (fun _ => .refl s) fun _ => (retireHeads i s).trans (endDrainIfEmpty i _)

theorem recordEvent (i : StreamId) (kind : EventKind) (g : Gen) (s : State) : FencesKept s (s.recordEvent i kind g) :=
  setStream _

theorem reportFault (i : StreamId) (f : FaultReport) (s : State) : FencesKept s (s.reportFault i f) := by
  unfold State.reportFault
  split
  · exact (((failList i _ s).trans (flush i _ _)).trans (setStream _)).trans (recordEvent i _ _ _)
  · exact (failList i _ s).trans (endStream i _ _ _)
  · exact .refl s

theorem produceNotice (n : Notice) (s : State) : FencesKept s (s.produceNotice n) :=
  .of_routine (.produceNotice n s) (by simp)

theorem sendSync (i : StreamId) (s : State) : FencesKept s (s.sendSync i) := (setStream _).trans (produceNotice _ _)

theorem restartStream (i : StreamId) (s : State) : FencesKept s (s.restartStream i) := by
  unfold State.restartStream
  split
  · exact reportFault i _ s
  · exact reportFault i _ s
  · exact recordEvent i _ _ s
  · exact sendSync i s
  · exact .refl s
  · exact .refl s

theorem partnerRestart (s : State) : FencesKept s s.partnerRestart :=
  List.foldlRecOn (motive := fun u => FencesKept s u) _ State.restartStream (.refl s)
    fun u hu i _ => hu.trans (restartStream i u)

theorem restartOn (l : LaneId) (epoch : Byte) (s : State) : FencesKept s (s.restartOn l epoch) := by
  have begun : FencesKept s (s.restartBegun l epoch) := .of_blocks (by simp) (by simp)
  have told := begun.trans (partnerRestart _)
  have recorded (u : State) : FencesKept u u.recordLinkChange := .of_blocks
  rw [State.restartOn_eq]
  exact .trans (.ite (fun _ => told.trans (.of_routine (.transmitLinkUp _) (by simp))) fun _ => told) (recorded _)

/-! ### Generations -/

theorem finishOpen (i : StreamId) (x : Status) (s : State) : FencesKept s (s.finishOpen i x) := by
  unfold State.finishOpen
  dsimp only
  split
  · exact .refl s
  · exact (setStream _).trans (postDone _ _ _ _ _ _)

theorem syncAckArrives (i : StreamId) (g : Gen) (s : State) : FencesKept s (s.syncAckArrives i g) :=
  .ite (fun _ => (setStream _).trans (finishOpen i _ _)) fun _ => .refl s

theorem adopt (i : StreamId) (g : Gen) (s : State) : FencesKept s (s.adopt i g) :=
  (((setStream _).trans (produceNotice _ _)).trans (setStream _)).trans (finishOpen i _ _)

theorem resetSequences (i : StreamId) (s : State) : FencesKept s (s.resetSequences i) :=
  .trans (setTxs (x := { s.txs i with txNext := 0 }) le_rfl) .of_blocks

theorem resync (i : StreamId) (g : Gen) (s : State) : FencesKept s (s.resync i g) := by
  have emptied := ((failList i .peerResync s).trans (flush i .streamResync _)).trans (resetSequences i _)
  exact (((emptied.trans (setStream _)).trans (produceNotice _ _)).trans (recordEvent i _ _ _)).trans (endDrainIfEmpty i _)

theorem syncArrives (i : StreamId) (g : Gen) (s : State) : FencesKept s (s.syncArrives i g) := by
  have opened : FencesKept s (s.syncOpened i g) := .ite (fun _ => produceNotice _ s) fun _ => resync i g s
  unfold State.syncArrives
  split
  · refine .ite (fun _ => produceNotice _ s) fun _ => ?_
    split
    · exact adopt i g s
    · exact sendSync i s
  · exact opened
  · exact opened
  · exact .refl s
  · exact .refl s
  · exact .refl s

/-! ### Send entries -/

theorem setEntry (s : State) (i : StreamId) (m : Msn) (e : SendEntry) : FencesKept s (s.setEntry i m e) :=
  .of_routine (.setEntry s i m e)

theorem applyOutcome (i : StreamId) (g : Gen) (m : Msn) (x : EntryState) (s : State) :
    FencesKept s (s.applyOutcome i g m x) := by
  have freed (n : Msn) : FencesKept s (s.freeSlotOf i n) := .of_blocks
  unfold State.applyOutcome
  split
  · exact .refl s
  · exact .ite (fun _ => .refl s) fun _ => ((freed _).trans (setEntry _ i m _)).trans (retire i _)

theorem applyNotOpen (i : StreamId) (g : Gen) (m : Msn) (s : State) : FencesKept s (s.applyNotOpen i g m) :=
  .ite (fun _ => reportFault i _ s) fun _ => .refl s

theorem ackTimeout (i : StreamId) (m : Msn) (e : SendEntry) (s : State) : FencesKept s (s.ackTimeout i m e) :=
  .ite (fun _ => (setEntry s i m _).trans (reportFault i _ _)) fun _ => (setEntry s i m _).trans (setTxs le_rfl)

theorem ackExpiry (i : StreamId) (m : Msn) (s : State) : FencesKept s (s.ackExpiry i m) := by
  refine .ite (fun _ => .refl s) fun _ => ?_
  split
  · exact .refl s
  · exact .ite (fun _ => ackTimeout i m _ s) fun _ => .refl s

end FencesKept
end

end Sys2Proof.Machine

namespace Sys2Proof.Machine

set_option Elab.async false -- one thread for each lemma would need more memory than the check allows

/-! ### Taking a FENCE -/

/-- The scopes that cover a stream (R97). -/
theorem FenceScope.covers_iff {scope : FenceScope} {j : StreamId} :
    scope.covers j = true ↔ scope = .all ∨ scope = .one j := by
  cases scope with
  | all => simp [covers]
  | one i => simp [covers]

@[simp] theorem State.fenceCounts_get (s : State) (scope : FenceScope) (j : StreamId) :
    (s.fenceCounts scope)[j] = if scope.covers j then (s.txs j).list.length else 0 :=
  Vector.getElem_ofFn j.isLt

/-- The counts of a fence are all 0 exactly when their sum is (R98, R99). -/
theorem sum_toList_eq_zero {v : Vector Nat 64} : v.toList.sum = 0 ↔ ∀ j : StreamId, v[j] = 0 := by
  rw [List.sum_eq_zero_iff]
  constructor
  · exact fun h j => h _ (Vector.mem_toList_iff.mpr (Vector.getElem_mem j.isLt))
  · intro h n hn
    obtain ⟨j, hj, rfl⟩ := Vector.getElem_of_mem (Vector.mem_toList_iff.mp hn)
    exact h ⟨j, hj⟩

theorem FenceRecord.settled_iff {r : FenceRecord} : r.settled = true ↔ r.remaining.toList.sum = 0 := by
  simp only [settled, List.all_eq_true, decide_eq_true_eq, List.sum_eq_zero_iff]

/-- A FENCE record of either scope passes the checks of a configured part (R142 to R145). -/
theorem exec_fence {s : State} {q : ReadEntry} (h : AwaitsRecord s q) (hc : s.rp.config.configured = true)
    (tag : Tag) (scope : FenceScope) :
    exec (.fence scope.streamField tag scope.code) s = .next ((s.recordTaken q).takeFence tag scope) := by
  cases scope <;>
    simp [exec, execFence, State.completeRecordRead_eq h, State.processRecord, RequestRecord.check,
      RequestRecord.reservedZero, RequestRecord.inRange, cleanRecord, hc, State.dispatch, FenceScope.streamField,
      FenceScope.code]

section
variable {s : State} {scope : FenceScope}

/-- A FENCE is refused while four are pending (R98). -/
theorem State.takeFence_busy (h : 4 ≤ s.ft.length) (tag : Tag) : s.takeFence tag scope = s.withPosted
    [.requestDone 0x06 scope.streamField tag .fenceBusy (.fenceDone scope 0 0)] :=
  (if_pos h).trans (postReserved_eq _ s)

/-- A FENCE over empty lists completes at once (R99). -/
theorem State.takeFence_empty (h : s.ft.length < 4) (hz : (s.fenceCounts scope).toList.sum = 0) (tag : Tag) :
    s.takeFence tag scope = s.withPosted
      [.requestDone 0x06 scope.streamField tag .success (.fenceDone scope 0 0)] :=
  (if_neg (not_le.mpr h)).trans ((if_pos hz).trans (postReserved_eq _ s))

/-- Any other FENCE joins the pending list with its counts (R98, R99). -/
theorem State.takeFence_pends (h : s.ft.length < 4) (hz : (s.fenceCounts scope).toList.sum ≠ 0) (tag : Tag) :
    s.takeFence tag scope = { s with
      ft := s.ft ++ [⟨tag, scope, s.fenceCounts scope, 0, (s.fenceCounts scope).toList.sum⟩] } :=
  (if_neg (not_le.mpr h)).trans (if_neg hz)
end

/-- Settles O17: the three answers of `takeFence`, whose counts the taking of the record leaves as they were. -/
theorem fenceIsTaken : Obligations.FenceIsTaken := by
  intro s q tag scope hq hc count counts stream code posts
  have hcounts : (s.recordTaken q).fenceCounts scope = counts := by
    refine Vector.ext fun j hj => ?_
    simp only [counts, count, State.fenceCounts, Vector.getElem_ofFn, FenceScope.covers_iff]
    rfl
  have hzero : counts.toList.sum = 0 ↔ ∀ j, count j = 0 :=
    sum_toList_eq_zero.trans (forall_congr' fun j => by simp [counts])
  have hstream : scope.streamField = stream := by cases scope <;> rfl
  have hcode : scope.code = code := by cases scope <;> rfl
  have taken := exec_fence hq hc tag scope
  have busy := State.takeFence_busy (s := s.recordTaken q) (scope := scope)
  have empty := State.takeFence_empty (s := s.recordTaken q) (scope := scope)
  have pends := State.takeFence_pends (s := s.recordTaken q) (scope := scope)
  rw [hcounts] at empty pends
  rw [hstream] at taken busy empty
  rw [hcode] at taken
  rw [taken]
  exact ⟨fun h => congrArg _ (busy h tag), fun h hz => congrArg _ (empty h (hzero.mpr hz) tag),
    fun h ⟨j, hj⟩ => congrArg _ (pends h (fun hz => hj (hzero.mp hz j)) tag)⟩

end Sys2Proof.Machine

namespace Sys2Proof.Machine

set_option Elab.async false -- one thread for each lemma would need more memory than the check allows

namespace FencesKept
variable {s t u : State} {i : StreamId}

/-! ### Requests -/

/-- A taken FENCE awaits no more on a stream than its list holds, and joins the pending list only if that is anything at
all (R98, R99). -/
theorem takeFence (tag : Tag) (scope : FenceScope) (s : State) : FencesKept s (s.takeFence tag scope) := by
  by_cases hfull : 4 ≤ s.ft.length
  · rw [State.takeFence_busy hfull]
    exact withPosted _ s
  by_cases hsum : (s.fenceCounts scope).toList.sum = 0
  · rw [State.takeFence_empty (not_le.mp hfull) hsum]
    exact withPosted _ s
  · rw [State.takeFence_pends (not_le.mp hfull) hsum]
    refine ⟨fun h r hr => (List.mem_append.mp hr).elim (h r) fun hnew => ?_⟩
    obtain rfl := List.mem_singleton.mp hnew
    refine ⟨Bool.eq_false_iff.mpr (mt FenceRecord.settled_iff.mp hsum), fun j => ?_⟩
    dsimp only
    rw [State.fenceCounts_get]
    split
    · exact le_rfl
    · exact Nat.zero_le _

/-- An accepted SEND lengthens its list (R29). -/
theorem takeSend (i : StreamId) (tag : Tag) (a : HostAddr) (n : Nat) (s : State) :
    FencesKept s (s.takeSend i tag a n) := by
  unfold State.takeSend
  split
  · exact postDone _ _ _ _ _ s
  · exact setTxs (by simp)

theorem takeConfigure (tag : Tag) (c : ConfigRecord) (s : State) : FencesKept s (s.takeConfigure tag c) := by
  have applied (u : State) : FencesKept u { u with rp.config := c } := .of_blocks
  have reconfigured : FencesKept s (s.reconfigureLanes c.laneMask c.role c.localEpoch) :=
    .of_routine (.reconfigureLanes _ _ _ s) (by simp)
  exact .ite (fun _ => (reconfigured.trans (applied _)).trans (postReserved _ _)) fun _ => postReserved _ s

theorem takeOpen (i : StreamId) (tag : Tag) (s : State) : FencesKept s (s.takeOpen i tag) := by
  unfold State.takeOpen
  split
  · exact ((resetSequences i s).trans (setStream _)).trans (sendSync i _)
  · exact postDone _ _ _ _ _ s

/-- A CLOSE cancels an opening: its OPEN finishes, its list fails and the stream ends (R16). -/
theorem cancelOpening (i : StreamId) (s : State) : FencesKept s (s.cancelOpening i) := by
  have stopped : FencesKept s (s.setStream i { s.stream i with syncTimer := .stopped }) := setStream _
  exact (((stopped.trans (finishOpen i _ _)).trans (failList i _ _)).trans (releaseBuffers i _)).trans
    (enterReleasing i _ _)

theorem takeClose (i : StreamId) (tag : Tag) (mode : CloseMode) (s : State) : FencesKept s (s.takeClose i tag mode) := by
  have taken : FencesKept s (s.addClose i tag mode) := setStream _
  have now (u : State) : FencesKept u (u.closeNow i) := (failList i _ u).trans (endStream i _ _ _)
  unfold State.takeClose
  dsimp only
  split
  · exact taken.trans (cancelOpening i _)
  · exact (taken.trans (setStream _)).trans (endDrainIfEmpty i _)
  · exact taken.trans (now _)
  · exact taken.trans (now _)
  · exact (taken.trans (releaseBuffers i _)).trans (enterReleasing i _ _)
  · exact postDone _ _ _ _ _ s

theorem takePost (i : StreamId) (tag : Tag) (a : HostAddr) (n : Nat) (s : State) :
    FencesKept s (s.takePost i tag a n) := by
  have listed (r : RxStream) : FencesKept s (s.setRxs i r) := .of_blocks
  unfold State.takePost
  split
  · exact postDone _ _ _ _ _ s
  · exact (listed _).trans (postDone _ _ _ _ _ _)

theorem takeQueryStream (i : StreamId) (tag : Tag) (clear : Bool) (s : State) :
    FencesKept s (s.takeQueryStream i tag clear) := by
  have cleared (u : State) : FencesKept u (u.clearStreamCounters i) := .of_routine (.clearStreamCounters i u)
  exact .ite (fun _ => (postDone _ _ _ _ _ s).trans (cleared _)) fun _ => postDone _ _ _ _ _ s

theorem takeQueryLink (tag : Tag) (clear : Bool) (s : State) : FencesKept s (s.takeQueryLink tag clear) := by
  have cleared (u : State) : FencesKept u u.clearLaneCounters := .of_blocks
  exact .ite (fun _ => (postReserved _ s).trans (cleared _)) fun _ => postReserved _ s

theorem dispatch (tag : Tag) (r : Request) (s : State) : FencesKept s (s.dispatch tag r) := by
  cases r with
  | configure => exact takeConfigure tag _ s
  | openStream i => exact takeOpen i tag s
  | closeStream i mode => exact takeClose i tag mode s
  | send i a n => exact takeSend i tag a n s
  | post i a n => exact takePost i tag a n s
  | fence scope => exact takeFence tag scope s
  | queryStream i clear => exact takeQueryStream i tag clear s
  | queryLink clear => exact takeQueryLink tag clear s

theorem processRecord (r : RequestRecord) (s : State) : FencesKept s (s.processRecord r) := by
  unfold State.processRecord
  split
  · exact postReserved _ s
  · exact .ite (fun _ => dispatch _ _ s) fun _ => postReserved _ s

theorem completeRecordRead (r : RequestRecord) (s : State) : FencesKept s (s.completeRecordRead r) := by
  have dropped (n : Nat) : FencesKept s (s.dropRead n) := .of_blocks
  have advanced (u : State) : FencesKept u u.advanceRing := .of_blocks
  unfold State.completeRecordRead
  split
  · exact .refl s
  · refine (dropped _).trans (.ite (fun _ => .refl _) fun _ => ?_)
    split
    · exact (advanced _).trans (processRecord r _)
    · exact .of_blocks
    · exact .refl _

theorem receiveRecordData (data : List Byte) (s : State) : FencesKept s (s.receiveRecordData data) := by
  unfold State.receiveRecordData
  split
  · exact .refl s
  · exact .ite (fun _ => completeRecordRead _ s) fun _ => .of_blocks

/-! ### Lanes and the link -/

theorem seekLane (l : LaneId) (s : State) : FencesKept s (s.seekLane l) := .of_routine (.seekLane l s) (by simp)

theorem hearBad (l : LaneId) (s : State) : FencesKept s (s.hearBad l) := .of_routine (.hearBad l s) (by simp)

/-- A good unit other than ALIGN moves its lane, or is passed on by an UP lane (R111, R113 to R115). -/
theorem hearUnit {act : State → State} {l : LaneId} (h : ∀ u, FencesKept u (act u)) :
    FencesKept s (s.hearUnit l act) := by
  have heard (r : Lane) : FencesKept s (s.setLane l r) := .of_blocks
  unfold State.hearUnit
  split
  · exact .refl s
  · split
    · exact .refl s
    · exact heard _
    · exact seekLane l s
    · exact (heard _).trans (h _)

theorem alignedAlign (l : LaneId) (role : Role) (epoch : Byte) (ready : Bool) (s : State) :
    FencesKept s (s.alignedAlign l role epoch ready) := by
  have clash : FencesKept s { s with lm.roleClash := true } := .of_blocks
  have up (r : Lane) : FencesKept s (State.setLane { s with lm.partnerEpoch := epoch } l r) := .of_blocks
  refine .ite (fun _ => clash.trans (seekLane l _)) fun _ => .ite (fun _ => ?_) fun _ => .refl s
  exact .ite (fun _ => (up _).trans (.of_routine (.judgeLink _) (by simp))) fun _ => restartOn l epoch s

theorem hearAlign (l : LaneId) (role : Role) (epoch : Byte) (ready : Bool) (s : State) :
    FencesKept s (s.hearAlign l role epoch ready) := by
  have heard (r : Lane) : FencesKept s (s.setLane l r) := .of_blocks
  refine .ite (fun _ => .refl s) fun _ => ?_
  dsimp only
  split
  · exact .refl s
  · exact (heard _).trans (.of_routine (.seekingAlign l role _) (by simp))
  · exact (heard _).trans (alignedAlign l role epoch ready _)
  · exact .ite (fun _ => heard _) fun _ => (heard _).trans (seekLane l _)

/-! ### The register window and the grants -/

theorem judgeInterrupt (before : Bool) (s : State) : FencesKept s (State.judgeInterrupt before s) :=
  .of_routine (.judgeInterrupt before s) (by simp)

theorem writeControl (e ie : Bool) (s : State) : FencesKept s (s.writeControl e ie) := by
  have enabled : FencesKept s { s with hau.intEnable := ie } := .of_blocks
  refine (enabled.trans ?_).trans (judgeInterrupt _ _)
  unfold State.writeEnable
  split
  · exact .of_blocks
  · have returned (u : State) : FencesKept u u.returnHeldReservation := .ite (fun _ => .of_blocks) fun _ => .refl u
    exact (returned _).trans .of_blocks
  · exact .refl _

theorem writeRqRing (v : BitVec 64) (s : State) : FencesKept s (s.writeRqRing v) :=
  .ite (fun _ => .of_blocks) fun _ => .refl s

theorem writeCqRing (v : BitVec 64) (s : State) : FencesKept s (s.writeCqRing v) := by
  refine .ite (fun _ => .trans ?_ (judgeInterrupt _ _)) fun _ => .refl s
  exact .of_blocks

theorem writeCqHead (v : BitVec 32) (s : State) : FencesKept s (s.writeCqHead v) := by
  refine .ite (fun _ => .trans ?_ (judgeInterrupt _ _)) fun _ => .refl s
  exact .of_blocks

/-- A reset leaves no fence pending (R107). -/
theorem resetWith (rq cq : Ring) (s : State) : FencesKept s (s.resetWith rq cq) := ⟨fun _ => nofun⟩

theorem writeRegister (offset size : Nat) (v : BitVec 64) (s : State) : FencesKept s (s.writeRegister offset size v) := by
  have control (v : BitVec 64) : FencesKept s (s.writeControlWord v) :=
    .ite (fun _ => resetWith _ _ s) fun _ => writeControl _ _ s
  have tail (v : BitVec 32) : FencesKept s (s.writeRqTail v) := .of_blocks
  have same : FencesKept s s := .refl s
  exact .ite (fun _ => .ite (fun _ => control _) fun _ => .ite (fun _ => writeRqRing _ s) fun _ =>
      .ite (fun _ => writeRqRing _ s) fun _ => .ite (fun _ => writeCqRing _ s) fun _ => .ite (fun _ => writeCqRing _ s) fun _ =>
      .ite (fun _ => tail _) fun _ => .ite (fun _ => writeCqHead _ s) fun _ => same) fun _ =>
    .ite (fun _ => .ite (fun _ => writeRqRing _ s) fun _ => .ite (fun _ => writeCqRing _ s) fun _ => same) fun _ => same

theorem grantReservation (s : State) : FencesKept s s.grantReservation :=
  .ite (fun _ => .of_blocks) fun _ => .of_blocks

theorem linkEventGrant (s : State) : FencesKept s (if s.linkGrantEnabled then s.grantLinkEvent else s) :=
  .ite (fun _ => (postRecord _ s).trans .of_blocks) fun _ => .refl s

theorem streamEventGrant (s : State) : FencesKept s s.streamEventGrant := by
  refine .ite (fun _ => ?_) fun _ => .refl s
  split
  · exact .refl s
  · split
    · exact .refl s
    · exact (postRecord _ s).trans (setStream _)

theorem releaseListGrant (s : State) : FencesKept s s.releaseListGrant := by
  have released (i : StreamId) (r : RxStream) (u : State) :
      FencesKept u { u.setRxs i r with cp.releasePointer := i } := .of_blocks
  refine .ite (fun _ => ?_) fun _ => .refl s
  split
  · exact .refl s
  · split
    · exact .refl s
    · exact ((postRecord _ s).trans (released _ _ _)).trans (closeIfReleased _ _)

end FencesKept

/-! ### Every command -/

/-- Every command keeps the law of the pending fences. -/
theorem exec_fencesKept (x : Instr) (s : State) : ∃ t, exec x s = .next t ∧ FencesKept s t := by
  cases x with
  | portReset => exact ⟨_, rfl, .resetWith _ _ s⟩
  | softReset => exact ⟨_, rfl, .resetWith _ _ s⟩
  | enableSet ie => exact ⟨_, rfl, .writeControl _ _ s⟩
  | enableClear ie => exact ⟨_, rfl, .writeControl _ _ s⟩
  | intEnableWrite e ie => exact ⟨_, rfl, .writeControl _ _ s⟩
  | rqRingWrite v => exact ⟨_, rfl, .writeRqRing v s⟩
  | cqRingWrite v => exact ⟨_, rfl, .writeCqRing v s⟩
  | rqTailWrite v => exact ⟨_, rfl, .of_blocks⟩
  | cqHeadWrite v => exact ⟨_, rfl, .writeCqHead v s⟩
  | registerWrite offset size v => exact ⟨_, rfl, .writeRegister offset size v s⟩
  | configure => exact ⟨_, rfl, .completeRecordRead _ s⟩
  | openStream => exact ⟨_, rfl, .completeRecordRead _ s⟩
  | closeStream => exact ⟨_, rfl, .completeRecordRead _ s⟩
  | send => exact ⟨_, rfl, .completeRecordRead _ s⟩
  | post => exact ⟨_, rfl, .completeRecordRead _ s⟩
  | fence => exact ⟨_, rfl, .completeRecordRead _ s⟩
  | queryStream => exact ⟨_, rfl, .completeRecordRead _ s⟩
  | queryLink => exact ⟨_, rfl, .completeRecordRead _ s⟩
  | reservationGrant => exact ⟨_, rfl, .ite (fun _ => .grantReservation s) fun _ => .refl s⟩
  | recordReadIssue => exact ⟨_, rfl, .ite (fun _ => .of_blocks) fun _ => .refl s⟩
  | recordReadComplete data => exact ⟨_, rfl, .receiveRecordData data s⟩
  | sliceReadIssue => exact ⟨_, rfl, .of_routine (.sliceReadIssue s) (by simp)⟩
  | sliceReadReturn id data => exact ⟨_, rfl, .of_routine (.receiveSliceData id data s) (by simp)⟩
  | readError id => exact ⟨_, rfl, .of_routine (.readErrors id s) (by simp)⟩
  | readTimeout id => exact ⟨_, rfl, .of_routine (.readTimesOut id s) (by simp)⟩
  | forgottenReadReturn id => exact ⟨_, rfl, .of_blocks⟩
  | forgottenReadExpiry id => exact ⟨_, rfl, .of_blocks⟩
  | slicerSlotFill => exact ⟨_, rfl, .of_routine (.slotFill s) (by simp)⟩
  | unitPlacement => exact ⟨_, rfl, .of_routine (.placement s) (by simp)⟩
  | laneUnitTransmit l => exact ⟨_, rfl, .of_routine (.transmit l s) (by simp)⟩
  | alignReceived l role epoch ready =>
    exact ⟨_, rfl, .ite (fun _ => .hearBad l s) fun _ => .hearAlign l role epoch ready s⟩
  | badUnitReceived l => exact ⟨_, rfl, .hearBad l s⟩
  | idleReceived l => exact ⟨_, rfl, .hearUnit .refl⟩
  | silenceTimerExpiry l => exact ⟨_, rfl, .of_routine (.silence l s) (by simp)⟩
  | sliceReceived l => exact ⟨_, rfl, .hearUnit fun u => .of_routine (.sliceArrives _ u) (by simp)⟩
  | syncReceived l i g => exact ⟨_, rfl, .hearUnit (.syncArrives i g)⟩
  | syncAckReceived l i g => exact ⟨_, rfl, .hearUnit (.syncAckArrives i g)⟩
  | syncTimerExpiry i => exact ⟨_, rfl, .of_routine (.syncExpiry i s) (by simp)⟩
  | ackReceived l i g m => exact ⟨_, rfl, .hearUnit (.applyOutcome i g m _)⟩
  | deferReceived l i g m a reason => exact ⟨_, rfl, .hearUnit fun u => .of_routine (.applyDefer i g m a u) (by simp)⟩
  | rejectTooLongReceived l i g m => exact ⟨_, rfl, .hearUnit (.applyOutcome i g m _)⟩
  | rejectNotOpenReceived l i g m => exact ⟨_, rfl, .hearUnit (.applyNotOpen i g m)⟩
  | ackTimerExpiry i m => exact ⟨_, rfl, .ackExpiry i m s⟩
  | holdoffTimerExpiry i m => exact ⟨_, rfl, .of_routine (.holdoffExpiry i m s) (by simp)⟩
  | dataWriteDeparts => exact ⟨_, rfl, .of_routine (.dataWriteDeparts s) (by simp)⟩
  | recordWriteDeparts => exact ⟨_, rfl, .of_routine (.recordWriteDeparts s) (by simp)⟩
  | backlogMove => exact ⟨_, rfl, .of_routine (.backlogMove s) (by simp)⟩
  | interruptMessage msi => exact ⟨_, rfl, .of_routine (.interruptMessage msi s) (by simp)⟩
  | linkEventGrant => exact ⟨_, rfl, .linkEventGrant s⟩
  | streamEventGrant => exact ⟨_, rfl, .streamEventGrant s⟩
  | releaseListGrant => exact ⟨_, rfl, .releaseListGrant s⟩

/-- Settles O56: whatever command a step takes is `FencesKept`. -/
theorem stepKeepsFencesAwaiting : Obligations.StepKeepsFencesAwaiting := by
  intro s t hs h
  unfold step at h
  split at h
  · exact Host.Outcome.next.inj h ▸ hs
  · next x q _ =>
    obtain ⟨u, hu, hkept⟩ := exec_fencesKept x { s with pending := q }
    obtain rfl := Host.Outcome.next.inj (hu.symm.trans h)
    exact hkept.keeps hs

end Sys2Proof.Machine

namespace Sys2Proof.Machine

set_option Elab.async false -- one thread for each lemma would need more memory than the check allows

/-! ### What keeps the lanes, the link and the engine state lawful

`Keeps` composes the operations of a command for three laws at once: the law of the lanes and the link, the agreement
of the registers with an engine that is not HALTED, and the epoch recorded of the partner. Its parameters say what the
command may do beyond: `p` which epochs it may record, `halts` whether it may halt the engine. -/

/-- A lane controller as it may stand, by whether the lane mask has the lane (R108, R114, R116, R117, R128). -/
structure Lane.Lawful (member : Bool) (r : Lane) : Prop where
  off : r.state = .off ↔ member = false
  units : r.state ≠ .up → r.txQueue = []
  silence : r.state = .off ∨ r.state = .seeking → r.silenceTimer = .stopped
  validRun : r.validRun < 8
  badRun : r.badRun < 4

theorem lanesAgree_iff {s : State} :
    LanesAgree s ↔ ∀ l : LaneId, (s.lane l).Lawful (s.rp.config.laneMask.getLsbD l.val) :=
  ⟨fun h l => let ⟨off, units, silence, validRun, badRun⟩ := h l; ⟨off, units, silence, validRun, badRun⟩,
    fun h l => ⟨(h l).off, (h l).units, (h l).silence, (h l).validRun, (h l).badRun⟩⟩

/-- The law of the link state and the lanes (R108, R123). -/
structure State.LinkLawful (s : State) : Prop where
  link : LinkAgrees s
  lanes : LanesAgree s

/-- The engine is not HALTED, and the registers say so (R139, R174, R175, R177). -/
structure State.Working (s : State) : Prop where
  engine : s.hau.engine ≠ .halted
  agrees : EngineAgrees s

/-- From `s` to `t` both laws are kept and the epoch of the partner stays, but that an epoch of `p` may be recorded and,
where `halts` holds, the engine may halt. -/
structure Keeps (p : Byte → Prop) (halts : Prop) (s t : State) : Prop where
  link : s.LinkLawful → t.LinkLawful
  working : s.Working → t.Working ∨ halts
  epoch : t.lm.partnerEpoch = s.lm.partnerEpoch ∨ p t.lm.partnerEpoch

/-! ### The lane controllers -/

namespace Lane.Lawful
variable {m n : Bool} {r : Lane}

/-- A lane that listens stands in the mask (R128). -/
theorem member (h : r.Lawful m) (hs : r.state ≠ .off) : m = true := by
  cases m with
  | false => exact absurd (h.off.mpr rfl) hs
  | true => rfl

theorem toSeeking (r : Lane) : r.toSeeking.Lawful true := by constructor <;> simp [Lane.toSeeking]

theorem toOff (r : Lane) : r.toOff.Lawful false := by constructor <;> simp [Lane.toOff]

/-- A lane reset stands outside the mask (R133). -/
theorem reset : Lane.reset.Lawful false := by constructor <;> simp [Lane.reset]

/-- A CONFIGURE moves each lane as its membership of the masks asks (R128). -/
theorem reconfigure (h : r.Lawful m) (changed : Bool) : (r.reconfigure m n changed).Lawful n := by
  cases m <;> cases n
  · exact h
  · exact toSeeking r
  · exact toOff r
  · cases changed
    · exact h
    · exact toSeeking r

/-- A lane that stays in its state with its units, its runs below their limits. -/
theorem stays {r' : Lane} (h : r.Lawful m) (validRun : r'.validRun < 8) (badRun : r'.badRun < 4)
    (state : r'.state = r.state := by rfl) (units : r'.txQueue = r.txQueue := by rfl)
    (silence : r'.silenceTimer = r.silenceTimer := by rfl) : r'.Lawful m :=
  ⟨state ▸ h.off, by rw [state, units]; exact h.units, by rw [state, silence]; exact h.silence, validRun, badRun⟩

/-- An ALIGNED or UP lane that stays so, whatever its silence timer (R111). -/
theorem restarted {r' : Lane} (h : r.Lawful m) (hs : r.state = .aligned ∨ r.state = .up) (badRun : r'.badRun < 4)
    (state : r'.state = r.state := by rfl) (units : r'.txQueue = r.txQueue := by rfl)
    (validRun : r'.validRun = r.validRun := by rfl) : r'.Lawful m := by
  refine ⟨state ▸ h.off, by rw [state, units]; exact h.units, fun ho => ?_, validRun ▸ h.validRun, badRun⟩
  rw [state] at ho
  rcases hs with hs | hs <;> simp [hs] at ho

theorem hearGood (h : r.Lawful m) : r.hearGood.Lawful m := by
  unfold Lane.hearGood
  split
  · next hs => exact h.restarted (.inl hs) Nat.ofNat_pos
  · next hs => exact h.restarted (.inr hs) Nat.ofNat_pos
  · exact h.stays h.validRun Nat.ofNat_pos

/-- A lane that listens moves to ALIGNED or UP, which let the silence timer run (R114, R121). -/
theorem advanced {x : LaneState} {v : Nat} {t : Timer} (h : r.Lawful m) (hs : r.state = .seeking ∨ r.state = .aligned)
    (hx : x = .aligned ∨ x = .up) (hv : v < 8) : Lawful m { r with state := x, validRun := v, silenceTimer := t } := by
  have hq : r.txQueue = [] := h.units (by rcases hs with hs | hs <;> simp [hs])
  have hm : m = true := h.member (by rcases hs with hs | hs <;> simp [hs])
  refine ⟨?_, fun _ => hq, fun ho => ?_, hv, h.badRun⟩
  · rcases hx with rfl | rfl <;> simp [hm]
  · rcases hx with rfl | rfl <;> simp at ho

/-- An UP lane holds whatever units (R108). -/
theorem queued {q : List LinkUnit} (h : r.Lawful m) (hs : r.state = .up) : Lawful m { r with txQueue := q } :=
  ⟨h.off, fun hn => absurd hs hn, h.silence, h.validRun, h.badRun⟩

/-- A halt empties the queue and stops the timer (R131). -/
theorem halted (h : r.Lawful m) : Lawful m { r with txQueue := [], silenceTimer := r.silenceTimer.halt } :=
  ⟨h.off, fun _ => rfl, fun hs => by simp [h.silence hs, Timer.halt, Timer.isRunning], h.validRun, h.badRun⟩

end Lane.Lawful

/-! ### The laws, and what they read -/

section
variable {s t : State}

theorem State.LinkLawful.lane (h : s.LinkLawful) (l : LaneId) :
    (s.lane l).Lawful (s.rp.config.laneMask.getLsbD l.val) := lanesAgree_iff.mp h.lanes l

theorem State.anyLaneUp_congr (lanes : t.lm.lanes = s.lm.lanes) : t.anyLaneUp = s.anyLaneUp := by
  rw [anyLaneUp, lanes, anyLaneUp]

theorem State.LinkLawful.congr (h : s.LinkLawful) (lanes : t.lm.lanes = s.lm.lanes)
    (link : t.lm.linkState = s.lm.linkState) (mask : t.rp.config.laneMask = s.rp.config.laneMask) : t.LinkLawful := by
  refine ⟨?_, lanesAgree_iff.mpr fun l => ?_⟩
  · rw [LinkAgrees, link, anyLaneUp_congr lanes]
    exact h.link
  · rw [State.lane, lanes, mask]
    exact h.lane l

theorem State.Working.congr (h : s.Working) (engine : t.hau.engine = s.hau.engine)
    (enable : t.hau.enable = s.hau.enable)
    (cause : t.hau.haltCause = s.hau.haltCause) (address : t.hau.faultAddress = s.hau.faultAddress)
    (taking : t.rp.taking = .holding → s.rp.taking = .holding) : t.Working := by
  obtain ⟨hcause, hregs, hholding⟩ := h.agrees
  refine ⟨engine ▸ h.engine, ?_⟩
  rw [EngineAgrees, engine, enable, cause, address]
  exact ⟨hcause, hregs, hholding ∘ taking⟩

/-- The engine in STOPPED or RUNNING, ENABLE with it (R175, R178). -/
theorem State.Working.of_engine {e : Bool} (h : s.Working) (engine : t.hau.engine = if e then .running else .stopped)
    (enable : t.hau.enable = e) (cause : t.hau.haltCause = s.hau.haltCause)
    (address : t.hau.faultAddress = s.hau.faultAddress) (taking : t.rp.taking = .holding → e = true) : t.Working := by
  obtain ⟨hcause, hregs, _⟩ := h.agrees
  have hnone : s.hau.haltCause = .none := hcause.mpr h.engine
  obtain ⟨hzero, _⟩ := hregs h.engine
  have hne : t.hau.engine ≠ .halted := by rw [engine]; cases e <;> simp
  refine ⟨hne, by simp [hne, cause, hnone], fun _ => ⟨address.trans hzero, ?_⟩, fun ht => ?_⟩
  · rw [enable, engine]
    cases e <;> simp
  · simp [engine, taking ht]

end

/-! ### Composing -/

namespace Keeps
variable {p : Byte → Prop} {halts : Prop} {s t u : State} {i : StreamId} {l : LaneId}

theorem refl (s : State) : Keeps p halts s s := ⟨id, .inl, .inl rfl⟩

theorem trans (a : Keeps p halts s t) (b : Keeps p halts t u) : Keeps p halts s u where
  link := b.link ∘ a.link
  working hs := (a.working hs).elim b.working .inr
  epoch := b.epoch.elim (fun e => e ▸ a.epoch) .inr

theorem ite {q : Prop} [Decidable q] {a b : State} (ha : q → Keeps p halts s a) (hb : ¬q → Keeps p halts s b) :
    Keeps p halts s (if q then a else b) := by
  split
  · next hq => exact ha hq
  · next hq => exact hb hq

/-- What the three laws read stays, but that the Request Processor may leave HOLDING. -/
theorem of_blocks (lanes : t.lm.lanes = s.lm.lanes := by rfl) (link : t.lm.linkState = s.lm.linkState := by rfl)
    (epoch : t.lm.partnerEpoch = s.lm.partnerEpoch := by rfl)
    (mask : t.rp.config.laneMask = s.rp.config.laneMask := by rfl) (engine : t.hau.engine = s.hau.engine := by rfl)
    (enable : t.hau.enable = s.hau.enable := by rfl) (cause : t.hau.haltCause = s.hau.haltCause := by rfl)
    (address : t.hau.faultAddress = s.hau.faultAddress := by rfl)
    (taking : t.rp.taking = .holding → s.rp.taking = .holding := by exact fun held => held) : Keeps p halts s t :=
  ⟨fun hs => hs.congr lanes link mask, fun hs => .inl (hs.congr engine enable cause address taking), .inl epoch⟩

/-- The lanes and the link change, by a law of their own. -/
theorem of_link (link : s.LinkLawful → t.LinkLawful)
    (epoch : t.lm.partnerEpoch = s.lm.partnerEpoch ∨ p t.lm.partnerEpoch := by exact .inl rfl)
    (hau : t.hau = s.hau := by rfl) (taking : t.rp.taking = s.rp.taking := by rfl) : Keeps p halts s t :=
  ⟨link, fun hs => .inl (hs.congr (by rw [hau]) (by rw [hau]) (by rw [hau]) (by rw [hau]) (by rw [taking]; exact id)),
    epoch⟩

/-- The engine and the Request Processor change, by a law of their own. -/
theorem of_engine (working : s.Working → t.Working ∨ halts) (lm : t.lm = s.lm := by rfl)
    (config : t.rp.config = s.rp.config := by rfl) : Keeps p halts s t :=
  ⟨fun hs => hs.congr (by rw [lm]) (by rw [lm]) (by rw [config]), working, .inl (by rw [lm])⟩

/-! ### Postings, notices and the ends of streams -/

theorem withPosted (cs : List Completion) (s : State) : Keeps p halts s (s.withPosted cs) :=
  .ite (fun _ => .refl s) fun _ => .of_blocks

theorem postReserved (c : Completion) (s : State) : Keeps p halts s (s.postReserved c) := by
  rw [State.postReserved_eq]
  exact withPosted _ s

theorem postRecord (c : Completion) (s : State) : Keeps p halts s (s.postRecord c) := by
  rw [State.postRecord_eq]
  exact .of_blocks

theorem postDone (kind : RequestKind) (i : StreamId) (tag : Tag) (x : Status) (b : DoneBody) (s : State) :
    Keeps p halts s (s.postDone kind i tag x b) := postReserved _ s

theorem produceNotice (n : Notice) (s : State) : Keeps p halts s (s.produceNotice n) :=
  .ite (fun _ => .of_blocks) fun _ => .refl s

theorem setStream (r : StreamRecord) : Keeps p halts s (s.setStream i r) := .of_blocks

theorem setTxs (r : TxStream) : Keeps p halts s (s.setTxs i r) := .of_blocks

theorem setRxs (r : RxStream) : Keeps p halts s (s.setRxs i r) := .of_blocks

theorem retireAll (i : StreamId) (es : List SendEntry) (s : State) : Keeps p halts s (s.retireAll i es) := by
  obtain ⟨cs, ft, heq⟩ := State.retireAll_posts i es s
  rw [heq]
  exact .trans .of_blocks (withPosted cs _)

theorem retireHeads (i : StreamId) (s : State) : Keeps p halts s (s.retireHeads i) := (setTxs _).trans (retireAll i _ _)

theorem failList (i : StreamId) (cause : ListFailure) (s : State) : Keeps p halts s (s.failList i cause) := by
  refine .trans (t := (s.freeSlotsOfStream i).setList i []) ?_ (retireAll i _ _)
  exact .of_blocks

theorem closeIfReleased (i : StreamId) (s : State) : Keeps p halts s (s.closeIfReleased i) := by
  rw [State.closeIfReleased_eq]
  exact .ite (fun _ => (setStream _).trans (withPosted _ _)) fun _ => .refl s

theorem enterReleasing (i : StreamId) (cause : ReleaseCause) (s : State) : Keeps p halts s (s.enterReleasing i cause) :=
  (setStream _).trans (closeIfReleased i _)

theorem flush (i : StreamId) (reason : ReturnReason) (s : State) : Keeps p halts s (s.flush i reason) := .of_blocks

theorem releaseBuffers (i : StreamId) (s : State) : Keeps p halts s (s.releaseBuffers i) := .of_blocks

/-- A flush, the release of the buffer list and the entry to RELEASING (R14, R15, R20). -/
theorem endStream (i : StreamId) (reason : ReturnReason) (cause : ReleaseCause) (s : State) :
    Keeps p halts s (((s.flush i reason).releaseBuffers i).enterReleasing i cause) :=
  ((flush i reason s).trans (releaseBuffers i _)).trans (enterReleasing i cause _)

theorem endDrainIfEmpty (i : StreamId) (s : State) : Keeps p halts s (s.endDrainIfEmpty i) :=
  .ite (fun _ => endStream i _ _ s) fun _ => .refl s

theorem retire (i : StreamId) (s : State) : Keeps p halts s (s.retire i) :=
  .ite (fun _ => .refl s) fun _ => (retireHeads i s).trans (endDrainIfEmpty i _)

theorem recordEvent (i : StreamId) (kind : EventKind) (g : Gen) (s : State) :
    Keeps p halts s (s.recordEvent i kind g) := setStream _

theorem reportFault (i : StreamId) (f : FaultReport) (s : State) : Keeps p halts s (s.reportFault i f) := by
  unfold State.reportFault
  split
  · exact (((failList i _ s).trans (flush i _ _)).trans (setStream _)).trans (recordEvent i _ _ _)
  · exact (failList i _ s).trans (endStream i _ _ _)
  · exact .refl s

theorem sendSync (i : StreamId) (s : State) : Keeps p halts s (s.sendSync i) := (setStream _).trans (produceNotice _ _)

theorem restartStream (i : StreamId) (s : State) : Keeps p halts s (s.restartStream i) := by
  unfold State.restartStream
  split
  · exact reportFault i _ s
  · exact reportFault i _ s
  · exact recordEvent i _ _ s
  · exact sendSync i s
  · exact .refl s
  · exact .refl s

theorem partnerRestart (s : State) : Keeps p halts s s.partnerRestart :=
  List.foldlRecOn (motive := fun u => Keeps p halts s u) _ State.restartStream (.refl s)
    fun u hu i _ => hu.trans (restartStream i u)

/-! ### Generations -/

theorem finishOpen (i : StreamId) (x : Status) (s : State) : Keeps p halts s (s.finishOpen i x) := by
  unfold State.finishOpen
  dsimp only
  split
  · exact .refl s
  · exact (setStream _).trans (postDone _ _ _ _ _ _)

theorem syncAckArrives (i : StreamId) (g : Gen) (s : State) : Keeps p halts s (s.syncAckArrives i g) :=
  .ite (fun _ => (setStream _).trans (finishOpen i _ _)) fun _ => .refl s

theorem adopt (i : StreamId) (g : Gen) (s : State) : Keeps p halts s (s.adopt i g) :=
  (((setStream _).trans (produceNotice _ _)).trans (setStream _)).trans (finishOpen i _ _)

theorem resetSequences (i : StreamId) (s : State) : Keeps p halts s (s.resetSequences i) := .of_blocks

theorem resync (i : StreamId) (g : Gen) (s : State) : Keeps p halts s (s.resync i g) := by
  have emptied : Keeps p halts s (((s.failList i .peerResync).flush i .streamResync).resetSequences i) :=
    ((failList i _ s).trans (flush i _ _)).trans (resetSequences i _)
  refine .trans (.trans ?_ (recordEvent i _ _ _)) (endDrainIfEmpty i _)
  exact (emptied.trans (setStream _)).trans (produceNotice _ _)

theorem syncArrives (i : StreamId) (g : Gen) (s : State) : Keeps p halts s (s.syncArrives i g) := by
  have opened : Keeps p halts s (s.syncOpened i g) := .ite (fun _ => produceNotice _ s) fun _ => resync i g s
  unfold State.syncArrives
  split
  · refine .ite (fun _ => produceNotice _ s) fun _ => ?_
    split
    · exact adopt i g s
    · exact sendSync i s
  · exact opened
  · exact opened
  · exact .refl s
  · exact .refl s
  · exact .refl s

theorem syncExpiry (i : StreamId) (s : State) : Keeps p halts s (s.syncExpiry i) :=
  .ite (fun _ => .refl s) fun _ => .ite (fun _ => sendSync i s) fun _ => .refl s

/-! ### Send entries and slicer slots -/

theorem applyOutcome (i : StreamId) (g : Gen) (m : Msn) (x : EntryState) (s : State) :
    Keeps p halts s (s.applyOutcome i g m x) := by
  have settled (n : Msn) (e : SendEntry) : Keeps p halts s ((s.freeSlotOf i n).setEntry i m e) := .of_blocks
  unfold State.applyOutcome
  split
  · exact .refl s
  · exact .ite (fun _ => .refl s) fun _ => (settled _ _).trans (retire i _)

theorem applyDefer (i : StreamId) (g : Gen) (m : Msn) (a : Attempt) (s : State) :
    Keeps p halts s (s.applyDefer i g m a) := by
  unfold State.applyDefer
  split
  · exact .refl s
  · exact .ite (fun _ => .of_blocks) fun _ => .refl s

theorem applyNotOpen (i : StreamId) (g : Gen) (m : Msn) (s : State) : Keeps p halts s (s.applyNotOpen i g m) :=
  .ite (fun _ => reportFault i _ s) fun _ => .refl s

theorem ackExpiry (i : StreamId) (m : Msn) (s : State) : Keeps p halts s (s.ackExpiry i m) := by
  have set (e : SendEntry) : Keeps p halts s (s.setEntry i m e) := .of_blocks
  refine .ite (fun _ => .refl s) fun _ => ?_
  split
  · exact .refl s
  · refine .ite (fun _ => .ite (fun _ => ?_) fun _ => (set _).trans (setTxs _)) fun _ => .refl s
    exact (set _).trans (reportFault i _ _)

theorem holdoffExpiry (i : StreamId) (m : Msn) (s : State) : Keeps p halts s (s.holdoffExpiry i m) := by
  refine .ite (fun _ => .refl s) fun _ => ?_
  split
  · exact .refl s
  · exact .ite (fun _ => .of_blocks) fun _ => .refl s

theorem slotFill (s : State) : Keeps p halts s s.slotFill := by
  refine .ite (fun _ => ?_) fun _ => .refl s
  split
  · split
    · exact .of_blocks
    · exact .refl s
  · exact .refl s

/-! ### Reads -/

theorem sliceReadIssue (s : State) : Keeps p halts s s.sliceReadIssue := by
  refine .ite (fun _ => ?_) fun _ => .refl s
  split
  · exact .refl s
  · split
    · exact .refl s
    · split
      · exact .refl s
      · exact .of_blocks

theorem receiveSliceData (id : Nat) (data : List Byte) (s : State) : Keeps p halts s (s.receiveSliceData id data) := by
  have dropped : Keeps p halts s (s.dropRead id) := .of_blocks
  unfold State.receiveSliceData
  split
  · exact .refl s
  · split
    · exact .refl s
    · refine .ite (fun _ => dropped.trans (.ite (fun _ => .refl _) fun _ => ?_)) fun _ => .of_blocks
      split
      · exact .refl _
      · exact .ite (fun _ => .of_blocks) fun _ => .refl _

/-! ### The Receive Engine and the write queue -/

theorem deliverUpTo (i : StreamId) (n : Nat) (s : State) : Keeps p halts s (s.deliverUpTo i n) := by
  have delivered (c : ReContext) (u : State) : Keeps p halts u (u.deliver i c) := .of_blocks
  induction n generalizing s with
  | zero => exact .refl s
  | succ n ih =>
    unfold State.deliverUpTo
    split
    · exact .refl s
    · exact (delivered _ s).trans (ih _)

theorem deliveryCheck (i : StreamId) (s : State) : Keeps p halts s (s.deliveryCheck i) := deliverUpTo i _ s

theorem setContext (c : ReContext) (s : State) : Keeps p halts s (s.setContext c) := .of_blocks

theorem mergeSlice (c : ReContext) (u : SliceUnit) (s : State) : Keeps p halts s (s.mergeSlice c u) := by
  have refused (n : Notice) : Keeps p halts s ((s.setContext { c with state := .oversize }).produceNotice n) :=
    (setContext _ s).trans (produceNotice _ _)
  exact .ite (fun _ => .refl s) fun _ => .ite (fun _ => setRxs _) fun _ =>
    .ite (fun _ => .ite (fun _ => (refused _).trans (deliveryCheck _ _)) fun _ => refused _) fun _ =>
    .ite (fun _ => .of_blocks) fun _ => .refl s

theorem deferSlice (u : SliceUnit) (reason : DeferReason) (s : State) : Keeps p halts s (s.deferSlice u reason) :=
  .ite (fun _ => .refl s) fun _ => ((produceNotice _ s).trans (setStream _)).trans (setRxs _)

theorem newMessage (u : SliceUnit) (s : State) : Keeps p halts s (s.newMessage u) := by
  unfold State.newMessage
  split
  · exact deferSlice u _ s
  · exact .ite (fun _ => .trans .of_blocks (mergeSlice _ u _)) fun _ => deferSlice u _ s

theorem sliceForContext (c : ReContext) (u : SliceUnit) (s : State) : Keeps p halts s (s.sliceForContext c u) := by
  unfold State.sliceForContext
  split
  · exact mergeSlice c u s
  · exact .refl s
  · exact produceNotice _ s
  · exact produceNotice _ s

theorem behindWindow (u : SliceUnit) (s : State) : Keeps p halts s (s.behindWindow u) := by
  unfold State.behindWindow
  split
  · exact produceNotice _ s
  · exact produceNotice _ s
  · exact setRxs _

theorem sliceOnOpen (u : SliceUnit) (s : State) : Keeps p halts s (s.sliceOnOpen u) := by
  refine .ite (fun _ => .ite (fun _ => ?_) fun _ => .ite (fun _ => behindWindow u s) fun _ => setRxs _) fun _ =>
    setRxs _
  split
  · exact sliceForContext _ u s
  · exact newMessage u s

theorem sliceArrives (u : SliceUnit) (s : State) : Keeps p halts s (s.sliceArrives u) := by
  refine .ite (fun _ => ?_) fun _ => setRxs _
  split
  · exact produceNotice _ s
  · exact produceNotice _ s
  · exact produceNotice _ s
  · exact .refl s
  · exact sliceOnOpen u s
  · exact sliceOnOpen u s

theorem writeDeparted (c : ReContext) (s : State) : Keeps p halts s (s.writeDeparted c) := by
  refine .ite (fun _ => ?_) fun _ => setContext _ s
  split
  · exact ((setContext _ s).trans (produceNotice _ _)).trans (deliveryCheck _ _)
  · exact (setContext _ s).trans (deliveryCheck _ _)
  · exact setContext _ s

theorem dataWriteDeparts (s : State) : Keeps p halts s s.dataWriteDeparts := by
  unfold State.dataWriteDeparts
  split
  · next occupancy address payload rest _ =>
    have departed : Keeps p halts s (State.emit { s with hau.writeQueue := rest } (.hostWrite address payload)) :=
      .of_blocks
    refine departed.trans ?_
    dsimp only
    split
    · exact .refl _
    · exact writeDeparted _ _
  · exact .refl s

theorem recordWriteDeparts (s : State) : Keeps p halts s s.recordWriteDeparts := by
  unfold State.recordWriteDeparts
  split
  · exact .of_blocks
  · exact .refl s

theorem backlogMove (s : State) : Keeps p halts s s.backlogMove := by
  unfold State.backlogMove
  split
  · exact .refl s
  · exact .ite (fun _ => .of_blocks) fun _ => .refl s

theorem interruptMessage (msi : Bool) (s : State) : Keeps p halts s (s.interruptMessage msi) :=
  .ite (fun _ => .ite (fun _ => .of_blocks) fun _ => .of_blocks) fun _ => .refl s

end Keeps
end Sys2Proof.Machine

namespace Sys2Proof.Machine

set_option Elab.async false -- one thread for each lemma would need more memory than the check allows

/-! ### The link state and what its judgement leaves alone -/

section
variable (s : State)
theorem State.transmitLinkUp_eq : ∃ te, s.transmitLinkUp = { s with te := te } := by
  unfold transmitLinkUp
  split <;> exact ⟨_, rfl⟩

theorem State.transmitLinkDown_eq : ∃ te, s.transmitLinkDown = { s with te := te } := ⟨_, rfl⟩

/-- The judgement changes the Transmit Engine, the link state, the notice queue and the link event alone (R123). -/
theorem State.judgeLink_eq : ∃ te link notices event, s.judgeLink =
    { s with te := te, lm.linkState := link, lm.noticeQueue := notices, lm.linkEvent := event } := by
  unfold judgeLink
  split
  · obtain ⟨te, h⟩ := State.transmitLinkUp_eq { s with lm.linkState := .up }
    exact ⟨te, .up, s.lm.noticeQueue, satInc s.lm.linkEvent, by rw [h]; rfl⟩
  · obtain ⟨te, h⟩ := State.transmitLinkDown_eq { s with lm.linkState := .down, lm.noticeQueue := [] }
    exact ⟨te, .down, [], satInc s.lm.linkEvent, by rw [h]; rfl⟩
  · exact ⟨s.te, s.lm.linkState, s.lm.noticeQueue, s.lm.linkEvent, rfl⟩
end

/-- Another lane controller that stands as lawfully. -/
theorem State.LinkLawful.setLane {s : State} {l : LaneId} {r : Lane} (hs : s.LinkLawful)
    (law : ∀ m, (s.lane l).Lawful m → r.Lawful m) : LanesAgree (s.setLane l r) := by
  refine lanesAgree_iff.mpr fun k => ?_
  by_cases hk : k = l
  · subst hk
    rw [State.setLane_lane_self]
    exact law _ (hs.lane k)
  · rw [State.setLane_lane_ne _ _ _ _ hk]
    exact hs.lane k

/-- The lanes once a restart is told to the streams, by number (R122). -/
theorem State.restartBegun_lane (s : State) (l : LaneId) (epoch : Byte) (k : LaneId) : (s.restartBegun l epoch).lane k =
    if k = l then { s.lane k with state := .up }
    else if (s.lane k).state = .aligned ∨ (s.lane k).state = .up then (s.lane k).seekingFrom else s.lane k := by
  have hb : (s.restartBegun l epoch).lane k = ((State.setLane { s with lm.partnerEpoch := epoch } l
      { s.lane l with state := .up }).seekOthers l).lane k := rfl
  rw [hb, seekOthers_lane]
  by_cases hk : k = l
  · subst hk
    simp
  · simp only [setLane_lane_ne _ _ _ _ hk, hk, ne_eq, not_false_eq_true, true_and, if_false]
    rfl

namespace Keeps
variable {p : Byte → Prop} {halts : Prop} {s t u : State} {i : StreamId} {l : LaneId}

/-! ### Lanes and the link -/

theorem transmitLinkUp (s : State) : Keeps p halts s s.transmitLinkUp := by
  obtain ⟨te, heq⟩ := s.transmitLinkUp_eq
  rw [heq]
  exact .of_blocks

/-- Lanes that stand lawfully, with the link state judged (R123). -/
theorem judged (lanes : s.LinkLawful → LanesAgree u)
    (epoch : u.lm.partnerEpoch = s.lm.partnerEpoch ∨ p u.lm.partnerEpoch := by exact .inl rfl)
    (hau : u.hau = s.hau := by rfl) (taking : u.rp.taking = s.rp.taking := by rfl) : Keeps p halts s u.judgeLink := by
  have agrees := u.judgeLink_agrees
  obtain ⟨te, link, notices, event, heq⟩ := u.judgeLink_eq
  rw [heq] at agrees ⊢
  exact .of_link (fun hs => ⟨agrees, lanes hs⟩) epoch hau taking

/-- A lane that neither comes UP nor leaves UP leaves the link as it is. -/
theorem setLane {r : Lane} (up : r.state = .up ↔ (s.lane l).state = .up) (law : ∀ m, (s.lane l).Lawful m → r.Lawful m) :
    Keeps p halts s (s.setLane l r) := by
  refine .of_link fun hs => ⟨?_, hs.setLane law⟩
  have any : (s.setLane l r).anyLaneUp = true ↔ s.anyLaneUp = true := by
    rw [State.anyLaneUp_iff, State.anyLaneUp_iff]
    refine exists_congr fun k => ?_
    by_cases hk : k = l
    · subst hk
      rw [State.setLane_lane_self, up]
    · rw [State.setLane_lane_ne _ _ _ _ hk]
  rw [LinkAgrees, any]
  exact hs.link

theorem hearGood (l : LaneId) (s : State) : Keeps p halts s (s.setLane l (s.lane l).hearGood) := by
  refine .setLane ?_ fun _ hl => hl.hearGood
  unfold Lane.hearGood
  split <;> rfl

/-- A lane that listens returns to SEEKING, as the same event has changed it before (R118, R123). -/
theorem seekLane_setLane (hl : (s.lane l).state ≠ .off) (r : Lane) : Keeps p halts s ((s.setLane l r).seekLane l) := by
  rw [State.seekLane, State.setLane_lane_self, State.setLane_twice]
  exact .judged fun hs => hs.setLane fun m hm => hm.member hl ▸ .toSeeking r

/-- A lane that listens returns to SEEKING (R118, R123). -/
theorem seekLane (hl : (s.lane l).state ≠ .off) : Keeps p halts s (s.seekLane l) := by
  simpa using seekLane_setLane (p := p) (halts := halts) hl (s.lane l)

theorem hearBad (l : LaneId) (s : State) : Keeps p halts s (s.hearBad l) := by
  unfold State.hearBad
  refine .ite (fun _ => .refl s) fun _ => ?_
  dsimp only
  split
  · exact .refl s
  · next hs => exact .setLane Iff.rfl fun _ hl => hl.stays Nat.ofNat_pos hl.badRun
  · next hoff hseek =>
    have hs : (s.lane l).state = .aligned ∨ (s.lane l).state = .up := by
      cases hx : (s.lane l).state <;> simp_all
    refine .ite (fun _ => seekLane_setLane hoff _) fun hlow => .setLane Iff.rfl fun _ hl => ?_
    exact hl.restarted hs (not_le.mp hlow)

theorem silence (l : LaneId) (s : State) : Keeps p halts s (s.silence l) := by
  refine .ite (fun _ => .refl s) fun _ => .ite (fun hs => seekLane ?_) fun _ => .refl s
  rcases hs.1 with hs | hs <;> simp [hs]

/-- A good unit other than ALIGN moves its lane, or is passed on by an UP lane (R111, R113 to R115). -/
theorem hearUnit {act : State → State} (ha : ∀ u, Keeps p halts u (act u)) : Keeps p halts s (s.hearUnit l act) := by
  unfold State.hearUnit
  refine .ite (fun _ => .refl s) fun _ => ?_
  split
  · exact .refl s
  · next hs =>
    rw [Lane.hearGood_seeking hs]
    exact .setLane Iff.rfl fun _ hl => hl.stays Nat.ofNat_pos Nat.ofNat_pos
  · next hs => exact seekLane (by simp [hs])
  · exact (hearGood l s).trans (ha _)

theorem seekingAlign (hs : (s.lane l).state = .seeking) (role : Role) : Keeps p halts s (s.seekingAlign l role) := by
  have broken : Keeps p halts s (s.setLane l { s.lane l with validRun := 0 }) :=
    .setLane Iff.rfl fun _ hl => hl.stays Nat.ofNat_pos hl.badRun
  have aligned : Keeps p halts s (s.setLane l { s.lane l with
      state := .aligned, validRun := 0, silenceTimer := .running Config.silenceLimit }) :=
    .setLane (by simp [hs]) fun _ hl => hl.advanced (.inl hs) (.inl rfl) (by decide)
  refine .ite (fun _ => broken.trans .of_blocks) fun _ => .ite (fun _ => aligned.trans .of_blocks) fun hrun => ?_
  exact .setLane Iff.rfl fun _ hl => hl.stays (not_le.mp hrun) hl.badRun

/-- The state in which a partner restart is told to the streams: the lane is UP, the others are not, and the link is UP
(R122). -/
theorem restartBegun (hs : (s.lane l).state = .aligned) {epoch : Byte} (he : p epoch) :
    Keeps p halts s (s.restartBegun l epoch) := by
  have self : (s.restartBegun l epoch).lane l = { s.lane l with state := .up } := by
    rw [State.restartBegun_lane, if_pos rfl]
  refine .of_link (fun law => ⟨?_, lanesAgree_iff.mpr fun k => ?_⟩) (.inr he)
  · have any : (s.restartBegun l epoch).anyLaneUp = true := (State.anyLaneUp_iff _).mpr ⟨l, by rw [self]⟩
    rw [LinkAgrees, any]
    exact iff_of_true rfl rfl
  · have hk := law.lane k
    rw [State.restartBegun_lane]
    split
    · next heq => exact hk.advanced (.inr (heq ▸ hs)) (.inr rfl) hk.validRun
    · split
      · next hx =>
        have hm := hk.member fun hoff => by simp [hoff] at hx
        rw [State.restartBegun_rp, hm, ← Lane.toSeeking_eq]
        exact .toSeeking _
      · exact hk

theorem restartOn (hs : (s.lane l).state = .aligned) {epoch : Byte} (he : p epoch) :
    Keeps p halts s (s.restartOn l epoch) := by
  have told := (restartBegun (halts := halts) hs he).trans (partnerRestart _)
  have recorded (u : State) : Keeps p halts u u.recordLinkChange := .of_blocks
  rw [State.restartOn_eq]
  exact .trans (.ite (fun _ => told.trans (transmitLinkUp _)) fun _ => told) (recorded _)

theorem laneUp (hs : (s.lane l).state = .aligned) {epoch : Byte} (he : p epoch) :
    Keeps p halts s (s.laneUp l epoch) := by
  refine .ite (fun _ => .judged (fun law => ?_) (.inr he)) fun _ => restartOn hs he
  exact law.setLane fun _ hl => hl.advanced (.inr hs) (.inr rfl) hl.validRun

theorem alignedAlign (hs : (s.lane l).state = .aligned) {role : Role} {epoch : Byte} {ready : Bool}
    (he : role ≠ s.rp.config.role → ready = true → p epoch) : Keeps p halts s (s.alignedAlign l role epoch ready) := by
  refine .ite (fun _ => ?_) fun hrole => .ite (fun hready => laneUp hs (he hrole hready)) fun _ => .refl s
  have clash : Keeps p halts s { s with lm.roleClash := true } := .of_blocks
  have hl : (s.lane l).state ≠ .off := by simp [hs]
  exact clash.trans (seekLane (by exact hl))

/-- A good ALIGN trains a SEEKING lane, is judged by an ALIGNED one, and takes an UP lane back when it is not ready
(R114, R115). -/
theorem hearAlign {role : Role} {epoch : Byte} {ready : Bool}
    (he : (s.lane l).state = .aligned → role ≠ s.rp.config.role → ready = true → p epoch) :
    Keeps p halts s (s.hearAlign l role epoch ready) := by
  have heard := hearGood (p := p) (halts := halts) l s
  have kept (x : LaneState) (hx : (s.lane l).state = x) : ((s.setLane l (s.lane l).hearGood).lane l).state = x := by
    rw [State.setLane_lane_self, ← hx]
    unfold Lane.hearGood
    split <;> rfl
  unfold State.hearAlign
  refine .ite (fun _ => .refl s) fun _ => ?_
  dsimp only
  split
  · exact .refl s
  · next hs => exact heard.trans (seekingAlign (kept _ hs) role)
  · next hs => exact heard.trans (alignedAlign (kept _ hs) (he hs))
  · next hs => exact .ite (fun _ => heard) fun _ => seekLane_setLane (by simp [hs]) _

/-- A queue that an UP lane holds (R108). -/
theorem setQueue (hs : (s.lane l).state = .up) (q : List LinkUnit) :
    Keeps p halts s (s.setLane l { s.lane l with txQueue := q }) :=
  .setLane Iff.rfl fun _ hl => hl.queued hs

theorem transmit (l : LaneId) (s : State) : Keeps p halts s (s.transmit l) := by
  have sent (u : State) (x : Emission) : Keeps p halts u (u.emit x) := .of_blocks
  unfold State.transmit
  split
  · exact .refl s
  · exact sent s _
  · exact sent s _
  · next hs =>
    split
    · exact sent s _
    · exact (setQueue hs _).trans (sent _ _)

theorem placeUnit (hs : (s.lane l).state = .up) (x : LinkUnit) : Keeps p halts s (s.placeUnit l x) :=
  (setQueue hs _).trans .of_blocks

/-- A lane accepts a slice: the Transmit Engine changes beyond the placement (R36, R37). -/
theorem acceptSlice (hs : (s.lane l).state = .up) (k : SlotId) (w : SlotWork) (e : SendEntry) (data : List Byte) :
    Keeps p halts s (s.acceptSlice l k w e data) := by
  refine (placeUnit hs (.slice (s.sliceOf w e data))).trans ?_
  unfold State.acceptSlice
  exact .ite (fun _ => .of_blocks) fun _ => .of_blocks

theorem placement (s : State) : Keeps p halts s s.placement := by
  unfold State.placement
  refine .ite (fun _ => .refl s) fun _ => ?_
  split
  · exact .refl s
  · next l hl =>
    have hup : (s.lane l).state = .up := by
      have := List.find?_some hl
      simp only [Bool.and_eq_true, decide_eq_true_eq] at this
      exact this.1
    split
    · have taken (rest : List Notice) : Keeps p halts s { s with lm.noticeQueue := rest } := .of_blocks
      exact (taken _).trans (placeUnit (by exact hup) _)
    · split
      · exact .refl s
      · split
        · exact .refl s
        · split
          · exact acceptSlice hup _ _ _ _
          · exact .refl s

/-! ### Requests -/

/-- An applied CONFIGURE: the lanes follow the new mask, the link state is judged, and the mask is in force (R128,
R148). -/
theorem configured (c : ConfigRecord) (s : State) :
    Keeps p halts s { s.reconfigureLanes c.laneMask c.role c.localEpoch with rp.config := c } := by
  unfold State.reconfigureLanes
  dsimp only
  generalize hu : ({ s with lm.lanes := _, lm.roleClash := _ } : State) = u
  have agrees := u.judgeLink_agrees
  obtain ⟨te, link, notices, event, heq⟩ := u.judgeLink_eq
  rw [heq] at agrees ⊢
  subst hu
  refine .of_link fun hs => ⟨agrees, lanesAgree_iff.mpr fun k => ?_⟩
  simpa [State.lane] using (hs.lane k).reconfigure _

theorem takeConfigure (tag : Tag) (c : ConfigRecord) (s : State) : Keeps p halts s (s.takeConfigure tag c) :=
  .ite (fun _ => (configured c s).trans (postReserved _ _)) fun _ => postReserved _ s

theorem takeOpen (i : StreamId) (tag : Tag) (s : State) : Keeps p halts s (s.takeOpen i tag) := by
  unfold State.takeOpen
  split
  · exact ((resetSequences i s).trans (setStream _)).trans (sendSync i _)
  · exact postDone _ _ _ _ _ s

theorem takeClose (i : StreamId) (tag : Tag) (mode : CloseMode) (s : State) :
    Keeps p halts s (s.takeClose i tag mode) := by
  have taken : Keeps p halts s (s.addClose i tag mode) := setStream _
  have cancelled (u : State) : Keeps p halts u (u.cancelOpening i) :=
    (((setStream _).trans (finishOpen i _ _)).trans (failList i _ _)).trans
      ((releaseBuffers i _).trans (enterReleasing i _ _))
  have now (u : State) : Keeps p halts u (u.closeNow i) := (failList i _ u).trans (endStream i _ _ _)
  unfold State.takeClose
  dsimp only
  split
  · exact taken.trans (cancelled _)
  · exact (taken.trans (setStream _)).trans (endDrainIfEmpty i _)
  · exact taken.trans (now _)
  · exact taken.trans (now _)
  · exact (taken.trans (releaseBuffers i _)).trans (enterReleasing i _ _)
  · exact postDone _ _ _ _ _ s

theorem takeSend (i : StreamId) (tag : Tag) (a : HostAddr) (n : Nat) (s : State) :
    Keeps p halts s (s.takeSend i tag a n) := by
  unfold State.takeSend
  split
  · exact postDone _ _ _ _ _ s
  · exact setTxs _

theorem takePost (i : StreamId) (tag : Tag) (a : HostAddr) (n : Nat) (s : State) :
    Keeps p halts s (s.takePost i tag a n) := by
  unfold State.takePost
  split
  · exact postDone _ _ _ _ _ s
  · exact (setRxs _).trans (postDone _ _ _ _ _ _)

theorem takeFence (tag : Tag) (scope : FenceScope) (s : State) : Keeps p halts s (s.takeFence tag scope) :=
  .ite (fun _ => postReserved _ s) fun _ => .ite (fun _ => postReserved _ s) fun _ => .of_blocks

theorem takeQueryStream (i : StreamId) (tag : Tag) (clear : Bool) (s : State) :
    Keeps p halts s (s.takeQueryStream i tag clear) := by
  have cleared (u : State) : Keeps p halts u (u.clearStreamCounters i) := .of_blocks
  exact .ite (fun _ => (postDone _ _ _ _ _ s).trans (cleared _)) fun _ => postDone _ _ _ _ _ s

/-- The lane counters are no part of any law (R151). -/
theorem clearLaneCounters (s : State) : Keeps p halts s s.clearLaneCounters := by
  have cleared (l : LaneId) : s.clearLaneCounters.lane l = { s.lane l with badUnits := 0, retrains := 0 } := by
    simp [State.clearLaneCounters, State.lane]
  refine .of_link fun hs => ⟨?_, lanesAgree_iff.mpr fun l => ?_⟩
  · rw [LinkAgrees, State.anyLaneUp_iff]
    simp only [cleared]
    rw [← State.anyLaneUp_iff]
    exact hs.link
  · rw [cleared]
    exact (hs.lane l).stays (hs.lane l).validRun (hs.lane l).badRun

theorem takeQueryLink (tag : Tag) (clear : Bool) (s : State) : Keeps p halts s (s.takeQueryLink tag clear) :=
  .ite (fun _ => (postReserved _ s).trans (clearLaneCounters _)) fun _ => postReserved _ s

theorem dispatch (tag : Tag) (r : Request) (s : State) : Keeps p halts s (s.dispatch tag r) := by
  cases r with
  | configure => exact takeConfigure tag _ s
  | openStream i => exact takeOpen i tag s
  | closeStream i mode => exact takeClose i tag mode s
  | send i a n => exact takeSend i tag a n s
  | post i a n => exact takePost i tag a n s
  | fence scope => exact takeFence tag scope s
  | queryStream i clear => exact takeQueryStream i tag clear s
  | queryLink clear => exact takeQueryLink tag clear s

theorem processRecord (r : RequestRecord) (s : State) : Keeps p halts s (s.processRecord r) := by
  unfold State.processRecord
  split
  · exact postReserved _ s
  · exact .ite (fun _ => dispatch _ _ s) fun _ => postReserved _ s

theorem completeRecordRead (r : RequestRecord) (s : State) : Keeps p halts s (s.completeRecordRead r) := by
  have dropped (n : Nat) : Keeps p halts s (s.dropRead n) := .of_blocks
  have advanced (u : State) : Keeps p halts u u.advanceRing := .of_blocks (taking := nofun)
  unfold State.completeRecordRead
  split
  · exact .refl s
  · refine (dropped _).trans (.ite (fun _ => .refl _) fun _ => ?_)
    split
    · exact (advanced _).trans (processRecord r _)
    · exact .of_blocks (taking := nofun)
    · exact .refl _

theorem receiveRecordData (data : List Byte) (s : State) : Keeps p halts s (s.receiveRecordData data) := by
  unfold State.receiveRecordData
  split
  · exact .refl s
  · exact .ite (fun _ => completeRecordRead _ s) fun _ => .of_blocks

/-! ### The engine state -/

theorem judgeInterrupt (b : Bool) (s : State) : Keeps p halts s (State.judgeInterrupt b s) := by
  obtain ⟨o, ho⟩ := State.judgeInterrupt_eq b s
  rw [ho]
  exact .of_blocks

/-- A reservation is held over only while the engine is RUNNING, which lets HOLDING stand (R137, R139). -/
theorem grantReservation (hrun : s.hau.engine = .running) : Keeps p halts s s.grantReservation := by
  refine .ite (fun _ => .of_blocks (taking := nofun)) fun _ => .of_engine fun hs => .inl ⟨hs.engine, ?_⟩
  obtain ⟨hcause, hregs, _⟩ := hs.agrees
  exact ⟨hcause, hregs, fun _ => by simp [hrun]⟩

theorem issueRecordRead (s : State) : Keeps p halts s s.issueRecordRead := .of_blocks (taking := nofun)

/-- ENABLE moves the engine between STOPPED and RUNNING, and a held reservation is returned on the way to STOPPED (R139,
R178). -/
theorem writeEnable (e : Bool) (s : State) : Keeps p halts s (s.writeEnable e) := by
  unfold State.writeEnable
  split
  · exact .of_engine fun hs => .inl (hs.of_engine (e := true) rfl rfl rfl rfl fun _ => rfl)
  · have returned : Keeps p halts s s.returnHeldReservation :=
      .ite (fun _ => .of_blocks (taking := nofun)) fun _ => .refl s
    have idle : s.returnHeldReservation.rp.taking ≠ .holding := by
      unfold State.returnHeldReservation
      split
      · nofun
      · assumption
    refine returned.trans (.of_engine fun hs => .inl ?_)
    exact hs.of_engine (e := false) rfl rfl rfl rfl fun ht => absurd ht idle
  · exact .refl s

theorem writeControl (e ie : Bool) (s : State) : Keeps p halts s (s.writeControl e ie) := by
  have enabled : Keeps p halts s { s with hau.intEnable := ie } := .of_blocks
  exact (enabled.trans (writeEnable e _)).trans (judgeInterrupt _ _)

theorem writeRqRing (v : BitVec 64) (s : State) : Keeps p halts s (s.writeRqRing v) := by
  refine .ite (fun _ => .of_blocks (taking := fun ht => ?_)) fun _ => .refl s
  dsimp only at ht
  split at ht
  · cases ht
  · exact ht

theorem writeCqRing (v : BitVec 64) (s : State) : Keeps p halts s (s.writeCqRing v) := by
  refine .ite (fun _ => .trans ?_ (judgeInterrupt _ _)) fun _ => .refl s
  exact .of_blocks

theorem writeCqHead (v : BitVec 32) (s : State) : Keeps p halts s (s.writeCqHead v) := by
  refine .ite (fun _ => .trans ?_ (judgeInterrupt _ _)) fun _ => .refl s
  exact .of_blocks

end Keeps
end Sys2Proof.Machine

namespace Sys2Proof.Machine

set_option Elab.async false -- one thread for each lemma would need more memory than the check allows

/-! ### Resets and halts -/

theorem State.resetWith_linkLawful (rq cq : Ring) (s : State) : (s.resetWith rq cq).LinkLawful := by
  refine ⟨?_, lanesAgree_iff.mpr fun l => ?_⟩
  · have down : (s.resetWith rq cq).anyLaneUp ≠ true := by
      rw [Ne, anyLaneUp_iff]
      rintro ⟨l, hl⟩
      rw [resetWith_lane] at hl
      cases hl
    exact iff_of_false nofun down
  · have hmask : (s.resetWith rq cq).rp.config.laneMask.getLsbD l.val = false := by simp [resetWith, State.reset,
      RequestProcessor.reset, ConfigRecord.reset]
    rw [resetWith_lane, hmask]
    exact .reset

theorem State.resetWith_working (rq cq : Ring) (s : State) : (s.resetWith rq cq).Working :=
  ⟨nofun, iff_of_true rfl nofun, fun _ => ⟨rfl, iff_of_false nofun nofun⟩, nofun⟩

/-- A halt in one closed form, but for the interrupt it may owe (R131, R185). -/
theorem State.halt_eq (cause : HaltCause) (a : HostAddr) (s : State) : ∃ o, s.halt cause a = { s with
    hau.engine := .halted
    hau.haltCause := cause
    hau.faultAddress := a
    hau.writeQueue := []
    hau.tracker := s.hau.tracker.map fun r => { r with timer := r.timer.halt }
    hau.interruptOwed := o
    st := s.st.map fun r => { r with syncTimer := r.syncTimer.halt }
    te.tx := s.te.tx.map fun t => { t with list := t.list.map SendEntry.suspendTimers }
    lm.noticeQueue := []
    lm.lanes := s.lm.lanes.map fun l => { l with txQueue := [], silenceTimer := l.silenceTimer.halt }
    cp.backlog := [] } := by
  obtain ⟨o, ho⟩ := judgeInterrupt_eq s.interruptCondition { s with
    hau.engine := .halted
    hau.haltCause := cause
    hau.faultAddress := a
    hau.writeQueue := []
    hau.tracker := s.hau.tracker.map fun r => { r with timer := r.timer.halt }
    hau.interruptOwed := s.hau.interruptOwed.map fun _ => 0
    st := s.st.map fun r => { r with syncTimer := r.syncTimer.halt }
    te.tx := s.te.tx.map fun t => { t with list := t.list.map SendEntry.suspendTimers }
    lm.noticeQueue := []
    lm.lanes := s.lm.lanes.map fun l => { l with txQueue := [], silenceTimer := l.silenceTimer.halt }
    cp.backlog := [] }
  exact ⟨o, ho⟩

/-- A halt with a cause leaves the registers and the queues as HALTED has them (R131, R171, R174, R185). -/
theorem State.halt_agrees {cause : HaltCause} (hc : cause ≠ .none) (a : HostAddr) (s : State) :
    EngineAgrees (s.halt cause a) ∧ HaltedQuiet (s.halt cause a) := by
  obtain ⟨o, ho⟩ := s.halt_eq cause a
  rw [ho]
  exact ⟨⟨iff_of_false hc fun h => h rfl, fun h => absurd rfl h, fun _ => nofun⟩,
    fun _ => ⟨rfl, rfl, rfl, fun l => by simp [lane]⟩⟩

namespace Keeps
variable {p : Byte → Prop} {halts : Prop} {s t u : State} {i : StreamId} {l : LaneId}

theorem resetWith (hp : p 0) (rq cq : Ring) (s : State) : Keeps p halts s (s.resetWith rq cq) :=
  ⟨fun _ => s.resetWith_linkLawful rq cq, fun _ => .inl (s.resetWith_working rq cq), .inr hp⟩

theorem halt (hh : halts) (cause : HaltCause) (a : HostAddr) (s : State) : Keeps p halts s (s.halt cause a) := by
  obtain ⟨o, ho⟩ := s.halt_eq cause a
  have lane (l : LaneId) : (s.halt cause a).lane l =
      { s.lane l with txQueue := [], silenceTimer := (s.lane l).silenceTimer.halt } := by simp [ho, State.lane]
  refine ⟨fun hs => ⟨?_, lanesAgree_iff.mpr fun l => ?_⟩, fun _ => .inr hh, .inl (by rw [ho])⟩
  · rw [LinkAgrees, State.anyLaneUp_iff]
    simp only [lane]
    rw [← State.anyLaneUp_iff, ho]
    exact hs.link
  · rw [lane, ho]
    exact (hs.lane l).halted

theorem readErrors (hh : halts) (id : Nat) (s : State) : Keeps p halts s (s.readErrors id) := by
  have dropped : Keeps p halts s (s.dropRead id) := .of_blocks
  refine .ite (fun _ => .refl s) fun _ => ?_
  split
  · exact .refl s
  · exact dropped.trans (halt hh _ _ _)

theorem readTimesOut (hh : halts) (id : Nat) (s : State) : Keeps p halts s (s.readTimesOut id) := by
  refine .ite (fun _ => .refl s) fun _ => ?_
  split
  · exact .refl s
  · exact .ite (fun _ => halt hh _ _ s) fun _ => .refl s

/-! ### The register window and the grants -/

theorem writeRegister {offset size : Nat} {v : BitVec 64} (hp : v.getLsbD 1 = true → offset = 0x04 → size = 4 → p 0)
    (s : State) : Keeps p halts s (s.writeRegister offset size v) := by
  have control (ho : offset = 0x04) (hsize : size = 4) : Keeps p halts s (s.writeControlWord v) :=
    .ite (fun hb => resetWith (hp hb ho hsize) _ _ s) fun _ => writeControl _ _ s
  have tail (v : BitVec 32) : Keeps p halts s (s.writeRqTail v) := .of_blocks
  have same : Keeps p halts s s := .refl s
  have requests (v : BitVec 64) : Keeps p halts s (s.writeRqRing v) := writeRqRing v s
  have completions (v : BitVec 64) : Keeps p halts s (s.writeCqRing v) := writeCqRing v s
  unfold State.writeRegister
  refine .ite (fun hsize => .ite (fun ho => control ho hsize) fun _ => ?_) fun _ => .ite (fun _ => ?_) fun _ => same
  · exact .ite (fun _ => requests _) fun _ => .ite (fun _ => requests _) fun _ => .ite (fun _ => completions _) fun _ =>
      .ite (fun _ => completions _) fun _ => .ite (fun _ => tail _) fun _ => .ite (fun _ => writeCqHead _ s) fun _ =>
      same
  · exact .ite (fun _ => requests _) fun _ => .ite (fun _ => completions _) fun _ => same

theorem reservationGrant (s : State) : Keeps p halts s (if s.reservationEnabled then s.grantReservation else s) := by
  refine .ite (fun hen => grantReservation ?_) fun _ => .refl s
  simp only [State.reservationEnabled, Bool.and_eq_true] at hen
  obtain ⟨_, hwish⟩ := hen
  exact (of_decide_eq_true hwish).2.1

theorem linkEventGrant (s : State) : Keeps p halts s (if s.linkGrantEnabled then s.grantLinkEvent else s) :=
  .ite (fun _ => (postRecord _ s).trans .of_blocks) fun _ => .refl s

theorem streamEventGrant (s : State) : Keeps p halts s s.streamEventGrant := by
  refine .ite (fun _ => ?_) fun _ => .refl s
  split
  · exact .refl s
  · split
    · exact .refl s
    · exact (postRecord _ s).trans (setStream _)

theorem releaseListGrant (s : State) : Keeps p halts s s.releaseListGrant := by
  have released (i : StreamId) (r : RxStream) (u : State) :
      Keeps p halts u { u.setRxs i r with cp.releasePointer := i } := .of_blocks
  refine .ite (fun _ => ?_) fun _ => .refl s
  split
  · exact .refl s
  · split
    · exact .refl s
    · exact ((postRecord _ s).trans (released _ _ _)).trans (closeIfReleased _ _)

end Keeps

/-! ### Every command -/

/-- A reset of the part, by its own command or by a write to CONTROL (R175, R179). -/
def IsReset (c : Instr) : Prop :=
  c = .portReset ∨ c = .softReset ∨ ∃ v, v.getLsbD 1 = true ∧ c = .registerWrite 0x04 4 v

theorem exec_isReset {c : Instr} (h : IsReset c) (s : State) : ∃ rq cq, exec c s = .next (s.resetWith rq cq) := by
  obtain rfl | rfl | ⟨v, hv, rfl⟩ := h
  · exact ⟨_, _, rfl⟩
  · exact ⟨_, _, rfl⟩
  · exact ⟨_, _, congrArg Host.Outcome.next (if_pos hv)⟩

/-- The epochs that a command may record of the partner: 0 at a reset, and that of a ready ALIGN of the opposite role on
an ALIGNED lane (R119, R121). -/
def Records (c : Instr) (s : State) (e : Byte) : Prop :=
  IsReset c ∧ e = 0 ∨
    ∃ l role, c = .alignReceived l role e true ∧ (s.lane l).state = .aligned ∧ role ≠ s.rp.config.role ∧ e ≠ 0

/-- The failure of a read, which may halt the engine (R181, R185). -/
def ReadFails (c : Instr) : Prop := ∃ id, c = .readError id ∨ c = .readTimeout id

/-- Every command keeps the laws; an epoch is recorded and the engine halts only where `Records` and `ReadFails` say. -/
theorem exec_keeps (c : Instr) (s : State) : ∃ t, exec c s = .next t ∧ Keeps (Records c s) (ReadFails c) s t := by
  cases c with
  | portReset => exact ⟨_, rfl, .resetWith (.inl ⟨.inl rfl, rfl⟩) _ _ s⟩
  | softReset => exact ⟨_, rfl, .resetWith (.inl ⟨.inr (.inl rfl), rfl⟩) _ _ s⟩
  | enableSet ie => exact ⟨_, rfl, .writeControl _ _ s⟩
  | enableClear ie => exact ⟨_, rfl, .writeControl _ _ s⟩
  | intEnableWrite e ie => exact ⟨_, rfl, .writeControl _ _ s⟩
  | rqRingWrite v => exact ⟨_, rfl, .writeRqRing v s⟩
  | cqRingWrite v => exact ⟨_, rfl, .writeCqRing v s⟩
  | rqTailWrite v => exact ⟨_, rfl, .of_blocks⟩
  | cqHeadWrite v => exact ⟨_, rfl, .writeCqHead v s⟩
  | registerWrite offset size v =>
    refine ⟨_, rfl, .writeRegister (fun hb ho hsize => ?_) s⟩
    exact .inl ⟨.inr (.inr ⟨v, hb, by rw [ho, hsize]⟩), rfl⟩
  | configure => exact ⟨_, rfl, .completeRecordRead _ s⟩
  | openStream => exact ⟨_, rfl, .completeRecordRead _ s⟩
  | closeStream => exact ⟨_, rfl, .completeRecordRead _ s⟩
  | send => exact ⟨_, rfl, .completeRecordRead _ s⟩
  | post => exact ⟨_, rfl, .completeRecordRead _ s⟩
  | fence => exact ⟨_, rfl, .completeRecordRead _ s⟩
  | queryStream => exact ⟨_, rfl, .completeRecordRead _ s⟩
  | queryLink => exact ⟨_, rfl, .completeRecordRead _ s⟩
  | reservationGrant => exact ⟨_, rfl, .reservationGrant s⟩
  | recordReadIssue => exact ⟨_, rfl, .ite (fun _ => .issueRecordRead s) fun _ => .refl s⟩
  | recordReadComplete data => exact ⟨_, rfl, .receiveRecordData data s⟩
  | sliceReadIssue => exact ⟨_, rfl, .sliceReadIssue s⟩
  | sliceReadReturn id data => exact ⟨_, rfl, .receiveSliceData id data s⟩
  | readError id => exact ⟨_, rfl, .readErrors ⟨id, .inl rfl⟩ id s⟩
  | readTimeout id => exact ⟨_, rfl, .readTimesOut ⟨id, .inr rfl⟩ id s⟩
  | forgottenReadReturn id => exact ⟨_, rfl, .of_blocks⟩
  | forgottenReadExpiry id => exact ⟨_, rfl, .of_blocks⟩
  | slicerSlotFill => exact ⟨_, rfl, .slotFill s⟩
  | unitPlacement => exact ⟨_, rfl, .placement s⟩
  | laneUnitTransmit l => exact ⟨_, rfl, .transmit l s⟩
  | alignReceived l role epoch ready =>
    refine ⟨_, rfl, .ite (fun _ => .hearBad l s) fun hz => .hearAlign fun hs hrole hready => ?_⟩
    exact .inr ⟨l, role, by rw [hready], hs, hrole, hz⟩
  | badUnitReceived l => exact ⟨_, rfl, .hearBad l s⟩
  | idleReceived l => exact ⟨_, rfl, .hearUnit .refl⟩
  | silenceTimerExpiry l => exact ⟨_, rfl, .silence l s⟩
  | sliceReceived l => exact ⟨_, rfl, .hearUnit (.sliceArrives _)⟩
  | syncReceived l i g => exact ⟨_, rfl, .hearUnit (.syncArrives i g)⟩
  | syncAckReceived l i g => exact ⟨_, rfl, .hearUnit (.syncAckArrives i g)⟩
  | syncTimerExpiry i => exact ⟨_, rfl, .syncExpiry i s⟩
  | ackReceived l i g m => exact ⟨_, rfl, .hearUnit (.applyOutcome i g m _)⟩
  | deferReceived l i g m a reason => exact ⟨_, rfl, .hearUnit (.applyDefer i g m a)⟩
  | rejectTooLongReceived l i g m => exact ⟨_, rfl, .hearUnit (.applyOutcome i g m _)⟩
  | rejectNotOpenReceived l i g m => exact ⟨_, rfl, .hearUnit (.applyNotOpen i g m)⟩
  | ackTimerExpiry i m => exact ⟨_, rfl, .ackExpiry i m s⟩
  | holdoffTimerExpiry i m => exact ⟨_, rfl, .holdoffExpiry i m s⟩
  | dataWriteDeparts => exact ⟨_, rfl, .dataWriteDeparts s⟩
  | recordWriteDeparts => exact ⟨_, rfl, .recordWriteDeparts s⟩
  | backlogMove => exact ⟨_, rfl, .backlogMove s⟩
  | interruptMessage msi => exact ⟨_, rfl, .interruptMessage msi s⟩
  | linkEventGrant => exact ⟨_, rfl, .linkEventGrant s⟩
  | streamEventGrant => exact ⟨_, rfl, .streamEventGrant s⟩
  | releaseListGrant => exact ⟨_, rfl, .releaseListGrant s⟩

/-- A step takes the command at the front of the queue, if there is one. -/
theorem step_takes {s t : State} (h : step s = .next t) :
    t = s ∨ ∃ c rest, exec c { s with pending := rest } = .next t := by
  unfold step at h
  split at h
  · exact .inl (Host.Outcome.next.inj h).symm
  · exact .inr ⟨_, _, h⟩

/-- What a command that has been executed keeps. -/
theorem keeps_of_exec {c : Instr} {s t : State} (h : exec c s = .next t) : Keeps (Records c s) (ReadFails c) s t := by
  obtain ⟨u, hu, hk⟩ := exec_keeps c s
  obtain rfl := Host.Outcome.next.inj (hu.symm.trans h)
  exact hk

/-- Settles O48: whatever command a step takes keeps the law of the lanes and the link (`exec_keeps`). -/
theorem stepKeepsLinkAndLanes : Obligations.StepKeepsLinkAndLanes := by
  intro s t hlink hlanes h
  obtain rfl | ⟨c, rest, hc⟩ := step_takes h
  · exact ⟨hlink, hlanes⟩
  · obtain ⟨hlink, hlanes⟩ := (keeps_of_exec hc).link ⟨hlink, hlanes⟩
    exact ⟨hlink, hlanes⟩

/-- Settles O57: a reset records 0, and any other command an epoch that `Records` allows or the one recorded. -/
theorem partnerEpochChangesOnlyByAlign : Obligations.PartnerEpochChangesOnlyByAlign := by
  intro c s t h resets
  refine ⟨fun hr => ?_, fun hr hne => ?_⟩
  · obtain ⟨rq, cq, hx⟩ := exec_isReset hr s
    obtain rfl := Host.Outcome.next.inj (hx.symm.trans h)
    rfl
  · rcases (keeps_of_exec h).epoch with heq | ⟨hr', _⟩ | ⟨l, role, hc, hs, hrole, hz⟩
    · exact absurd heq hne
    · exact absurd hr' hr
    · exact ⟨l, role, _, hc, hs, hrole, hz, rfl⟩

/-- In HALTED a command leaves the registers and the queues as they are, or resets the part (R185, R186). -/
theorem exec_halted_agrees {c : Instr} {s t : State} (hh : s.hau.engine = .halted) (ha : EngineAgrees s)
    (hq : HaltedQuiet s) (h : exec c s = .next t) : EngineAgrees t ∧ HaltedQuiet t := by
  by_cases hr : IsReset c
  · obtain ⟨rq, cq, hx⟩ := exec_isReset hr s
    obtain rfl := Host.Outcome.next.inj (hx.symm.trans h)
    exact ⟨(s.resetWith_working rq cq).agrees, fun hc => absurd hc (s.resetWith_working rq cq).engine⟩
  · obtain ⟨u, hu, hf⟩ := exec_frozen hh hq (fun e => hr (.inl e)) (fun e => hr (.inr (.inl e)))
      fun v hv e => hr (.inr (.inr ⟨v, hv, e⟩))
    obtain rfl := Host.Outcome.next.inj (hu.symm.trans h)
    have hu : u.hau.engine = .halted := hf.engine.trans hh
    obtain ⟨hwrites, hbacklog, hnotices, hlanes⟩ := hq hh
    refine ⟨⟨?_, fun hn => absurd hu hn, fun _ => by simp [hu]⟩,
      fun _ => ⟨hf.writeQueue.trans hwrites, ?_, ?_, fun l => ?_⟩⟩
    · rw [hf.haltCause, hf.engine]
      exact ha.1
    · rw [hf.cp]
      exact hbacklog
    · rw [hf.lm]
      exact hnotices
    · rw [State.lane, hf.lm]
      exact hlanes l

/-- The failure of a read halts the engine with a cause, or changes nothing (R181, R185). -/
theorem exec_readFails {c : Instr} {s t : State} (hc : ReadFails c) (h : exec c s = .next t) :
    t = s ∨ ∃ cause a u, cause ≠ .none ∧ t = State.halt cause a u := by
  obtain ⟨id, rfl | rfl⟩ := hc
  · obtain rfl := Host.Outcome.next.inj h
    unfold State.readErrors
    split
    · exact .inl rfl
    · split
      · exact .inl rfl
      · exact .inr ⟨.readError, _, _, nofun, rfl⟩
  · obtain rfl := Host.Outcome.next.inj h
    unfold State.readTimesOut
    split
    · exact .inl rfl
    · split
      · exact .inl rfl
      · split
        · exact .inr ⟨.readTimeout, _, _, nofun, rfl⟩
        · exact .inl rfl

/-- Settles O50: HALTED freezes what the law reads (`exec_frozen`); out of HALTED a command keeps the part working, or
is the failure of a read, which halts it. -/
theorem stepKeepsEngineAgreeing : Obligations.StepKeepsEngineAgreeing := by
  intro s t ha hq h
  obtain rfl | ⟨c, rest, hc⟩ := step_takes h
  · exact ⟨ha, hq⟩
  by_cases hh : s.hau.engine = .halted
  · exact exec_halted_agrees (s := { s with pending := rest }) hh ha hq hc
  · obtain ⟨hne, ht⟩ | hfails := (keeps_of_exec hc).working ⟨hh, ha⟩
    · exact ⟨ht, fun he => absurd he hne⟩
    · obtain rfl | ⟨cause, a, u, hcause, rfl⟩ := exec_readFails hfails hc
      · exact ⟨ha, hq⟩
      · exact u.halt_agrees hcause a

end Sys2Proof.Machine

namespace Sys2Proof.Machine

set_option Elab.async false -- one thread for each lemma would need more memory than the check allows

/-! ### What a lane transmits -/

/-- Settles O39: the case of the lane's state, and in UP of its queue. -/
theorem laneTransmits : Obligations.LaneTransmits := by
  intro s l c sends
  have sent {u : State} (hu : s.transmit l = u) : exec (.laneUnitTransmit l) s = .next u := congrArg _ hu
  refine ⟨fun h => sent ?_, fun h => sent ?_, fun h => sent ?_, fun h hq => sent ?_, fun x rest h hq => sent ?_⟩
  · simp only [State.transmit, h]
  · simp only [State.transmit, h]
    rfl
  · simp only [State.transmit, h]
    rfl
  · simp only [State.transmit, h, hq]
    rfl
  · simp only [State.transmit, h, hq]
    rfl

/-! ### What a lane hears -/

section
variable {s : State} {l : LaneId}

theorem State.hearUnit_off (h : (s.lane l).state = .off) (act : State → State) : s.hearUnit l act = s := by
  simp only [hearUnit, h, ite_self]

theorem State.hearUnit_seeking (he : s.hau.engine ≠ .halted) (h : (s.lane l).state = .seeking) (act : State → State) :
    s.hearUnit l act = s.setLane l { s.lane l with badRun := 0, validRun := 0 } := by
  simp [hearUnit, isHalted, he, h, Lane.hearGood_seeking h]

theorem State.hearUnit_aligned (he : s.hau.engine ≠ .halted) (ha : LinkAgrees s) (h : (s.lane l).state = .aligned)
    (act : State → State) : s.hearUnit l act = s.laneLost l (s.lane l) := by
  simp [hearUnit, isHalted, he, h, seekLane_eq ha]

theorem State.hearBad_off (h : (s.lane l).state = .off) : s.hearBad l = s := by
  simp only [hearBad, h, ite_self]

theorem State.hearBad_halted (he : s.hau.engine = .halted) : s.hearBad l = s := by simp [hearBad, isHalted, he]

theorem State.hearBad_seeking (he : s.hau.engine ≠ .halted) (h : (s.lane l).state = .seeking) :
    s.hearBad l = s.setLane l { s.lane l with badUnits := satInc (s.lane l).badUnits, validRun := 0 } := by
  simp [hearBad, isHalted, he, h]

/-- An ALIGNED or UP lane counts a bad unit, and returns to SEEKING at the fourth in a row (R116). -/
theorem State.hearBad_listening (he : s.hau.engine ≠ .halted) (ha : LinkAgrees s)
    (h : (s.lane l).state = .aligned ∨ (s.lane l).state = .up) : s.hearBad l =
      if 3 ≤ (s.lane l).badRun then s.laneLost l { s.lane l with badUnits := satInc (s.lane l).badUnits }
      else s.setLane l { s.lane l with
        badUnits := satInc (s.lane l).badUnits, badRun := (s.lane l).badRun + 1, silenceTimer := .running 64 } := by
  have hfour : Config.badUnitLimit ≤ (s.lane l).badRun + 1 ↔ 3 ≤ (s.lane l).badRun := by
    simp only [Config.badUnitLimit]
    omega
  rcases h with h | h <;>
  · simp only [hearBad, isHalted, he, h, hfour, seekLane_setLane ha, decide_false, Bool.false_eq_true, if_false]
    rfl

theorem State.hearAlign_off (h : (s.lane l).state = .off) (role : Role) (epoch : Byte) (ready : Bool) :
    s.hearAlign l role epoch ready = s := by
  simp only [hearAlign, h, ite_self]

/-- The silence limit takes an ALIGNED or UP lane back to SEEKING (R117). -/
theorem State.silence_listening {left : Nat} (he : s.hau.engine ≠ .halted) (ha : LinkAgrees s)
    (h : (s.lane l).state = .aligned ∨ (s.lane l).state = .up) (ht : (s.lane l).silenceTimer = .running left) :
    s.silence l = s.laneLost l (s.lane l) := by
  simp [silence, isHalted, he, h, ht, Timer.isRunning, seekLane_eq ha]

/-- An ALIGN of the own role takes an ALIGNED lane back to SEEKING and sets `role_clash` (R115, R129). -/
theorem State.alignedAlign_clash (ha : LinkAgrees s) (h : (s.lane l).state = .aligned) (epoch : Byte) (ready : Bool) :
    (s.heard l).alignedAlign l s.rp.config.role epoch ready =
      { s.laneLost l (s.lane l) with lm.roleClash := true } := by
  have hne : (State.lane { s with lm.roleClash := true } l).state ≠ .up := by
    rw [show State.lane { s with lm.roleClash := true } l = s.lane l from rfl, h]
    nofun
  have back := seekLane_setLane (s := { s with lm.roleClash := true }) ha l
    { s.lane l with badRun := 0, silenceTimer := .running 64 }
  rw [laneLost_not_up hne] at back
  rw [laneLost_not_up (by simp [h]), alignedAlign, heard_rp, if_pos rfl]
  exact back

/-- The good units other than ALIGN, and what becomes of them on an UP lane (R113). -/
theorem exec_hearUnit {c : Instr} {i : StreamId} {g : Gen} {m : Msn} {a : Attempt} {reason : DeferReason} {index : Byte}
    {last : Bool} {payload : List Byte} (hc : c ∈ [.idleReceived l, .sliceReceived l i g m a index last payload,
      .syncReceived l i g, .syncAckReceived l i g, .ackReceived l i g m, .deferReceived l i g m a reason,
      .rejectTooLongReceived l i g m, .rejectNotOpenReceived l i g m]) (s : State) :
    ∃ act, exec c s = .next (s.hearUnit l act) := by
  simp only [List.mem_cons, List.not_mem_nil, or_false] at hc
  rcases hc with rfl | rfl | rfl | rfl | rfl | rfl | rfl | rfl <;> exact ⟨_, rfl⟩

end

/-- Settles O42: each reception is one of the operations above, by the lane's state; the returns to SEEKING are all
`laneLost`. -/
theorem laneReturnsToSeeking : Obligations.LaneReturnsToSeeking := by
  intro s l i g m a reason index last payload r bad others
  have unit {c : Instr} (hc : c ∈ others) : ∃ act, exec c s = .next (s.hearUnit l act) := exec_hearUnit hc s
  refine ⟨fun he ha => ⟨fun c hc => ?_, fun h => ?_,
    fun role epoch ready hz => ⟨fun h hrole => ?_, fun h hr => ?_, fun h => ?_⟩,
    fun left h ht => ?_, fun h hthree => ?_, fun h hlow => ?_, fun h => ?_, fun h => ?_⟩,
    fun he => ⟨fun c hc => ?_, ?_, ?_, fun role epoch ready => ?_⟩⟩
  · obtain ⟨act, hx⟩ := unit hc
    rw [hx]
    exact ⟨fun h => congrArg _ (State.hearUnit_aligned he ha h act),
      fun h => congrArg _ (State.hearUnit_seeking he h act), fun h => congrArg _ (State.hearUnit_off h act)⟩
  · exact congrArg _ (State.hearUnit_up ⟨he, h⟩ _)
  · rw [exec_alignReceived_aligned he hz h, hrole]
    exact congrArg _ (State.alignedAlign_clash ha h epoch ready)
  · rw [exec_alignReceived_up he hz h, hr]
    exact congrArg _ (State.seekLane_setLane ha l _)
  · exact congrArg _ ((if_neg hz).trans (State.hearAlign_off h role epoch ready))
  · exact congrArg _ (State.silence_listening he ha h ht)
  · exact congrArg _ ((State.hearBad_listening he ha h).trans (if_pos hthree))
  · exact congrArg _ ((State.hearBad_listening he ha h).trans (if_neg (not_le.mpr hlow)))
  · exact congrArg _ (State.hearBad_seeking he h)
  · exact congrArg _ (State.hearBad_off h)
  · obtain ⟨act, hx⟩ := unit hc
    rw [hx, State.hearUnit_halted he]
  · exact congrArg _ (State.hearBad_halted he)
  · exact congrArg _ (if_pos (by simp [State.isHalted, he]))
  · have hx : s.hearAlign l role epoch ready = s := if_pos (by simp [State.isHalted, he])
    exact congrArg _ ((ite_congr rfl (fun _ => State.hearBad_halted he) fun _ => hx).trans (ite_self s))

end Sys2Proof.Machine

namespace Sys2Proof.Machine

set_option Elab.async false -- one thread for each lemma would need more memory than the check allows

/-! ### Units on a lane, read back -/

theorem leBytes_length (n v : Nat) : (leBytes n v).length = n := by
  induction n generalizing v with
  | zero => rfl
  | succ n ih => simp [leBytes, ih]

/-- Bytes sent with their CRC are judged by what they spell (R111, R190). -/
theorem judgeUnit_withCrc (bs : List Byte) : judgeUnit (withCrc bs) = unitOfBody bs := by
  have hlen : (withCrc bs).length = bs.length + 4 := by rw [withCrc, List.length_append, leBytes_length]
  have hbody : (withCrc bs).take ((withCrc bs).length - 4) = bs := by
    rw [hlen, Nat.add_sub_cancel, withCrc, List.take_left]
  unfold judgeUnit
  dsimp only
  rw [hbody, hlen]
  exact if_pos ⟨Nat.le_add_left 4 _, rfl⟩

/-! The fields of a unit (R191, R195). -/

theorem genByte_setWidth (g : Gen) : (genByte g).setWidth 4 = g := by
  revert g
  decide

theorem sliceByte_fields (g : Gen) (a : Attempt) (last : Bool) : (sliceByte g a last).setWidth 4 = g ∧
    ((sliceByte g a last) >>> 4).setWidth 3 = a ∧ (sliceByte g a last)[7] = last := by
  revert g a last
  decide

theorem attemptByte_setWidth (a : Attempt) : (0#5 ++ a).setWidth 3 = a := by
  revert a
  decide

theorem roleOf_roleCode (r : Role) : roleOf (roleCode r) = some r := by cases r <;> rfl

theorem deferOf_deferCode (r : DeferReason) : deferOf (deferCode r) = some r := by cases r <;> rfl

theorem rejectOf_rejectCode (r : RejectReason) : rejectOf (rejectCode r) = some r := by cases r <;> rfl

theorem unitOfBody_align (role : Role) {epoch : Byte} (ready : Bool) (h : epoch ≠ 0) :
    unitOfBody (LinkUnit.align role epoch ready).body = some (.align role epoch ready) := by
  have h : ¬epoch = 0#8 := h
  cases ready <;> simp [unitOfBody, LinkUnit.body, byteAt, roleOf_roleCode, h]

/-- The two length bytes of a SLICE give the length of its payload (R191, R192). -/
theorem unitOfBody_slice {u : SliceUnit} (h : u.payload.length ≤ 256) :
    unitOfBody (LinkUnit.slice u).body = some (.slice u) := by
  obtain ⟨hgen, hattempt, hlast⟩ := sliceByte_fields u.gen u.attempt u.last
  have hlen : 256 * (u.payload.length / 256 % 256) + u.payload.length % 256 = u.payload.length := by omega
  have hsize : u.payload.length ≤ Config.sliceBytes := h
  simp [unitOfBody, LinkUnit.body, byteAt, hgen, hattempt, hlast, hlen, hsize, Nat.add_comm 8]

theorem unitOfBody_notice (n : Notice) : unitOfBody n.body = some (.notice n) := by
  cases n <;>
    simp [unitOfBody, Notice.body, byteAt, genByte_setWidth, attemptByte_setWidth, deferOf_deferCode,
      rejectOf_rejectCode]

/-- Settles O47: the CRC leaves the body (`judgeUnit_withCrc`), and each layout reads back; a good unit ends in its
CRC. -/
theorem unitsReadBack : Obligations.UnitsReadBack := by
  refine ⟨fun x hx => ?_, fun bs l hbad => ?_⟩
  · rw [LinkUnit.bytes, judgeUnit_withCrc]
    cases x with
    | align role epoch ready => exact unitOfBody_align role ready hx
    | idle => rfl
    | slice u => exact unitOfBody_slice hx
    | notice n => exact unitOfBody_notice n
  · have hnone : judgeUnit bs = none := if_neg fun ⟨hlen, hcrc⟩ => 
      hbad ⟨hlen, List.append_cancel_left ((List.take_append_drop _ bs).trans hcrc)⟩
    rw [receptionOf, hnone]

end Sys2Proof.Machine

namespace Sys2Proof.Machine

set_option Elab.async false -- one thread for each lemma would need more memory than the check allows

/-! ### Writes to CONTROL -/

/-- The interrupt condition as R187 words it. -/
theorem State.interruptCondition_iff (s : State) : s.interruptCondition = true ↔
    s.hau.intEnable = true ∧ (0 < s.cp.unconsumed ∨ s.hau.engine = .halted) := by
  simp [interruptCondition]

/-- What a judgement leaves owed, by the condition before and after the event (R187). -/
theorem State.judgeInterrupt_owed (before : Bool) (s : State) :
    (State.judgeInterrupt before s).hau.interruptOwed =
      if s.interruptCondition then if before then s.hau.interruptOwed else some s.unwrittenRecords else none := by
  unfold judgeInterrupt oweInterrupt
  split
  · split <;> rfl
  · rfl

/-- ENABLE moves the engine between STOPPED and RUNNING, and a stop takes the reservation of a HOLDING Request Processor
back (R139, R175, R178). -/
theorem State.writeEnable_eq (enable : Bool) (s : State) :
    let starts := s.hau.engine = .stopped ∧ enable = true
    let stops := s.hau.engine = .running ∧ enable = false
    s.writeEnable enable = { s with
      hau := { s.hau with
        engine := if starts then .running else if stops then .stopped else s.hau.engine
        enable := if starts then true else if stops then false else s.hau.enable }
      rp.taking := if stops ∧ s.rp.taking = .holding then .idle else s.rp.taking
      cp.reserved := if stops ∧ s.rp.taking = .holding then s.cp.reserved - 1 else s.cp.reserved } := by
  intro starts stops
  by_cases hstart : starts
  · obtain ⟨he, rfl⟩ := hstart
    simp [writeEnable, he, starts, stops]
  by_cases hstop : stops
  · obtain ⟨he, rfl⟩ := hstop
    by_cases ht : s.rp.taking = .holding <;>
      simp [writeEnable, returnHeldReservation, releaseReservation, he, ht, starts, stops]
  · have hidle : s.writeEnable enable = s := by
      unfold writeEnable
      split
      · next he => exact absurd ⟨he, rfl⟩ hstart
      · next he => exact absurd ⟨he, rfl⟩ hstop
      · rfl
    simp [hidle, hstart, hstop]

/-- Settles O5: the three commands are one write, whose ENABLE is `writeEnable_eq`; what is owed is the judgement's. -/
theorem controlWriteActs : Obligations.ControlWriteActs := by
  intro enable intEnable s
  refine ⟨s.writeControl enable intEnable, ?_⟩
  intro starts stops holds
  let u := State.writeEnable enable { s with hau.intEnable := intEnable }
  obtain ⟨owed, ho⟩ : ∃ o, s.writeControl enable intEnable = { u with hau.interruptOwed := o } :=
    State.judgeInterrupt_eq s.interruptCondition u
  have howed : (s.writeControl enable intEnable).hau.interruptOwed =
      if u.interruptCondition then if s.interruptCondition then u.hau.interruptOwed else some u.unwrittenRecords
      else none := State.judgeInterrupt_owed s.interruptCondition u
  have hholds : holds (s.writeControl enable intEnable) ↔ u.interruptCondition = true := by
    rw [ho]
    exact u.interruptCondition_iff.symm
  have hu : u = _ := State.writeEnable_eq enable { s with hau.intEnable := intEnable }
  refine ⟨rfl, ?_, ?_, ?_, ?_, ?_⟩
  · cases enable <;> rfl
  · rw [ho, hu]
  · intro hn
    rw [howed, if_neg fun h => hn (hholds.mpr h)]
  · rintro ⟨ht, hs⟩
    rw [howed, if_pos (hholds.mp ht), if_pos (s.interruptCondition_iff.mpr hs), hu]
  · rintro ⟨ht, hs⟩
    rw [howed, if_pos (hholds.mp ht), if_neg fun h => hs (s.interruptCondition_iff.mp h), ho]
    rfl
/-! ### Writes to the ring registers -/

theorem ringBase_eq (v : BitVec 64) : ringBase v = v.extractLsb' 12 52 :=
  BitVec.eq_of_toNat_eq (by simp [ringBase])

theorem ringOrder_eq (v : BitVec 64) : ringOrder v = v.extractLsb' 0 4 :=
  BitVec.eq_of_toNat_eq (by simp [ringOrder])

theorem ringOrder_toNat (v : BitVec 64) : (ringOrder v).toNat = v.toNat % 16 := BitVec.toNat_setWidth 4 v

theorem orderValid_ringOrder (v : BitVec 64) :
    orderValid (ringOrder v) = decide (4 ≤ v.toNat % 16 ∧ v.toNat % 16 ≤ 12) := by
  rw [orderValid, ringOrder_toNat]
  rfl

/-- Outside HALTED nothing unconsumed means that no interrupt is owed (R187). -/
theorem State.judgeInterrupt_cancels (before : Bool) {s : State} (he : s.hau.engine ≠ .halted)
    (hu : s.cp.unconsumed = 0) : State.judgeInterrupt before s = { s with hau.interruptOwed := none } := by
  have hc : s.interruptCondition = false := by simp [interruptCondition, he, hu]
  simp [judgeInterrupt, hc]

/-- CQ_HEAD of an empty completion ring whose tail is 0 (R155, R177). -/
theorem State.cqHead_emptied {s : State} (ht : s.cp.tail = 0) (hu : s.cp.unconsumed = 0) : s.cqHead = 0 := by
  simp [cqHead, ht, hu]

/-- Settles O6: in STOPPED each write stores the fields of the value (`ringBase_eq`, `ringOrder_eq`), and with nothing
unconsumed no interrupt is owed. -/
theorem ringWritesAct : Obligations.RingWritesAct := by
  intro v s order valid
  have hvalid : orderValid (ringOrder v) = true ↔ valid := by rw [orderValid_ringOrder, decide_eq_true_eq]
  refine ⟨fun he => congrArg Host.Outcome.next ?_, fun he => ?_, fun he => ⟨?_, ?_⟩⟩
  · rw [State.writeRqRing, if_pos he, ringBase_eq, if_congr hvalid (ringOrder_eq v) rfl]
    cases s.rp.taking <;> rfl
  · have htaken : (orderValid (ringOrder v) && decide (s.cp.reserved ≤ 2 ^ (ringOrder v).toNat)) = true ↔
        valid ∧ s.cp.reserved ≤ 2 ^ order := by
      rw [Bool.and_eq_true, hvalid, decide_eq_true_eq, ringOrder_toNat]
    refine ⟨s.writeCqRing v, rfl, ?_⟩
    rw [State.writeCqRing, if_pos he, State.judgeInterrupt_cancels _ (by simp [he]) rfl, ringBase_eq,
      if_congr htaken (ringOrder_eq v) rfl]
    exact ⟨State.cqHead_emptied rfl rfl, rfl⟩
  · exact congrArg _ (if_neg he)
  · exact congrArg _ (if_neg he)

/-! ### Writes to the index registers -/

/-- The place `used` slots before the tail, `used` places on, is the tail (R156, R177). -/
theorem head_add_used (tail used : Nat) {size : Nat} (hs : 0 < size) :
    (tail + (size - used % size)) % size + used ≡ tail [MOD size] := by
  have hlt := Nat.mod_lt used hs
  calc (tail + (size - used % size)) % size + used
      ≡ tail + (size - used % size) + used % size [MOD size] := (Nat.mod_modEq _ _).add (Nat.mod_modEq _ _).symm
    _ = tail + size := by omega
    _ ≡ tail [MOD size] := Nat.add_modEq_right

/-- Slots given back move the head on by their number. -/
theorem head_advanced {tail unconsumed advance size : Nat} (h : advance ≤ unconsumed) (hs : 0 < size) :
    (tail + (size - (unconsumed - advance) % size)) % size =
      ((tail + (size - unconsumed % size)) % size + advance) % size := by
  obtain ⟨left, rfl⟩ := Nat.exists_eq_add_of_le h
  rw [Nat.add_sub_cancel_left]
  have hmod : (tail + (size - left % size)) % size ≡
      (tail + (size - (advance + left) % size)) % size + advance [MOD size] := by
    refine Nat.ModEq.add_right_cancel' left ((head_add_used tail left hs).trans ?_)
    rw [Nat.add_assoc]
    exact (head_add_used tail (advance + left) hs).symm
  rwa [Nat.ModEq, Nat.mod_mod] at hmod

/-- The advance of a write brings the head to the written value (R159). -/
theorem head_reached {head value size : Nat} (hh : head < size) :
    (head + (value % size + (size - head)) % size) % size = value % size := by
  have hsum : head + (value % size + (size - head)) = value % size + size := by omega
  rw [Nat.add_mod_mod, hsum, Nat.add_mod_right, Nat.mod_mod]

/-- Settles O7: an accepted write gives back the slots of its advance, so that the head is where it says
(`head_advanced`, `head_reached`); what is owed is the judgement's. -/
theorem indexWritesAct : Obligations.IndexWritesAct := by
  intro v s size advance left
  refine ⟨rfl, fun ha => ?_, fun ha => congrArg _ (if_neg (not_le.mpr ha))⟩
  have hsize : 0 < size := Nat.two_pow_pos _
  have hhead : s.cqHead < size := Nat.mod_lt _ hsize
  let u : State := { s with cp.unconsumed := left }
  have hx : s.writeCqHead v = State.judgeInterrupt false u := if_pos ha
  obtain ⟨owed, ho⟩ := State.judgeInterrupt_eq false u
  have howed := State.judgeInterrupt_owed false u
  refine ⟨s.writeCqHead v, rfl, ?_, ?_⟩
  · rw [hx, ho]
    exact (head_advanced ha hsize).trans (head_reached hhead)
  · rw [ho, if_congr u.interruptCondition_iff rfl rfl] at howed
    rw [hx, ho]
    exact congrArg (fun o => { u with hau.interruptOwed := o }) howed

end Sys2Proof.Machine

namespace Sys2Proof.Machine

set_option Elab.async false -- one thread for each lemma would need more memory than the check allows

/-! ### Queries -/

/-- A clear flag reads back from its byte (R143). -/
theorem clearOf_flag (clear : Bool) : clearOf (if clear then 0x01 else 0x00) = some clear := by
  cases clear <;> rfl

/-- A record that passes its checks is handed to its block (R145). -/
theorem State.processRecord_dispatches {s : State} {r : RequestRecord} {p : Request} (h : r.check = some p)
    (hc : s.rp.config.configured = true ∨ p.exempt = true) : s.processRecord r = s.dispatch r.tag p := by
  rw [processRecord, h]
  exact if_pos (Bool.or_eq_true_iff.mpr hc)

/-- A QUERY_STREAM record names its stream and passes the checks of a configured part (R142 to R145). -/
theorem exec_queryStream {s : State} {q : ReadEntry} (h : AwaitsRecord s q) (hc : s.rp.config.configured = true)
    (i : StreamId) (tag : Tag) (clear : Bool) :
    exec (.queryStream (streamByte i) tag (if clear then 0x01 else 0x00)) s =
      .next ((s.recordTaken q).takeQueryStream i tag clear) := by
  have hcheck : (cleanRecord .queryStream (streamByte i) tag (.queryStream (if clear then 0x01 else 0x00))).check =
      some (.queryStream i clear) := by
    simp only [RequestRecord.check, RequestRecord.inRange, cleanRecord, streamOf_streamByte, clearOf_flag]
    rfl
  exact congrArg _ ((State.completeRecordRead_eq h _).trans (State.processRecord_dispatches hcheck (.inl hc)))

/-- A QUERY_LINK record passes the checks of any part (R142 to R145). -/
theorem exec_queryLink {s : State} {q : ReadEntry} (h : AwaitsRecord s q) (tag : Tag) (clear : Bool) :
    exec (.queryLink tag (if clear then 0x01 else 0x00)) s = .next ((s.recordTaken q).takeQueryLink tag clear) := by
  have hcheck : (cleanRecord .queryLink 0 tag (.queryLink (if clear then 0x01 else 0x00))).check =
      some (.queryLink clear) := by
    simp only [RequestRecord.check, RequestRecord.inRange, cleanRecord, clearOf_flag]
    rfl
  exact congrArg _ ((State.completeRecordRead_eq h _).trans (State.processRecord_dispatches hcheck (.inr rfl)))

/-- The MSN of the head, or `tx_next` of an empty list (R53). -/
theorem TxStream.headMsn_eq (t : TxStream) : t.headMsn = (t.list.head?.map SendEntry.msn).getD t.txNext := by
  unfold headMsn
  cases t.list <;> rfl

/-- Settles O18: each query posts its report of the values as they stand, and the clearing touches only counters, which
no posting reads. -/
theorem queriesAnswer : Obligations.QueriesAnswer := by
  intro s q i tag clear h flag tx rx u v
  have hu : (s.recordTaken q).postDone .queryStream i tag .success
      (.streamDone ((s.recordTaken q).streamReport i)) = u := by
    rw [State.postDone, State.postReserved_eq, State.streamReport, TxStream.headMsn_eq]
    rfl
  have hv : (s.recordTaken q).postDoneNoStream .queryLink tag .success (.linkDone (s.recordTaken q).linkReport) = v :=
    State.postReserved_eq _ _
  refine ⟨fun hc => (exec_queryStream h hc i tag clear).trans (congrArg _ ?_),
    (exec_queryLink h tag clear).trans (congrArg _ ?_)⟩
  · have htx : u.txs i = tx := State.withPosted_txs _ _ i
    have hrx : u.rxs i = rx := State.withPosted_rxs _ _ i
    simp only [State.takeQueryStream, hu, State.clearStreamCounters, State.setTxs_rxs, htx, hrx]
  · have hlm : v.lm = s.lm := State.withPosted_lm _ _
    simp only [State.takeQueryLink, hv, State.clearLaneCounters, hlm]

/-! ### The read of a request record -/

/-- The read that the Request Processor issues (R138, R180). -/
theorem State.issueRecordRead_eq (s : State) : s.issueRecordRead = { s with
    hau.tracker := s.hau.tracker ++ [⟨s.freshReadId, .requestProcessor,
      s.hau.rqRing.baseAddress + BitVec.ofNat 64 (64 * s.rp.rqHead), 64, [], .running 50000⟩]
    rp.taking := .reading false
    emitted := .hostRead s.freshReadId (s.hau.rqRing.baseAddress + BitVec.ofNat 64 (64 * s.rp.rqHead)) 64 ::
      s.emitted } := rfl

theorem State.trackerRoom_iff (s : State) : s.trackerRoom = true ↔ s.hau.tracker.length < 8 := decide_eq_true_iff

/-- With no claim above it the wish for a reservation is granted (R136, R161). -/
theorem State.reservationEnabled_eq {s : State} (he : s.hau.engine = .running) (ht : s.rp.taking = .idle)
    (hr : s.rp.rqTail ≠ s.rp.rqHead) (hl : s.lm.linkEvent = 0)
    (hi : ∀ i, (s.stream i).event = none ∧ (s.rxs i).releaseList = [])
    (hf : s.cp.unconsumed + s.cp.reserved < 2 ^ s.hau.cqRing.order.toNat) : s.reservationEnabled = true := by
  have hg : s.canGrant = true := canGrant_eq (by simp [he]) hf
  have hevent : s.eventClaim = none := by simp [eventClaim, hi]
  have hrelease : s.releaseClaim = none := by simp [releaseClaim, hi]
  simp [reservationEnabled, hg, hl, hevent, hrelease, requestWish, ht, he, hr]

/-- Settles O19: the wish is granted (`reservationEnabled_eq`), and the read is `issueRecordRead_eq` under an identifier
that no read holds (`freshReadId_fresh`). -/
theorem requestReadIsIssued : Obligations.RequestReadIsIssued := by
  intro s he reads fresh reserved
  refine ⟨fun ht hr hl hi hf => ?_, fun ht hroom => ?_⟩
  · have hx : exec .reservationGrant s = .next s.grantReservation :=
      congrArg _ (if_pos (State.reservationEnabled_eq he ht hr hl hi hf))
    refine ⟨fun hroom => ⟨reserved.freshReadId, reserved.freshReadId_fresh, ?_⟩, fun hfull => ?_⟩
    · rw [hx, State.grantReservation, if_pos (reserved.trackerRoom_iff.mpr hroom), State.issueRecordRead_eq]
    · rw [hx, State.grantReservation, if_neg fun h => absurd (reserved.trackerRoom_iff.mp h) (not_lt.mpr hfull)]
  · have hen : s.recordReadEnabled = true := by
      simp [State.recordReadEnabled, ht, s.trackerRoom_iff.mpr hroom, State.isHalted, he]
    exact ⟨s.freshReadId, s.freshReadId_fresh, congrArg _ (if_pos hen)⟩

end Sys2Proof.Machine

namespace Sys2Proof.Machine

set_option Elab.async false -- one thread for each lemma would need more memory than the check allows

/-! ### CONFIGURE -/

theorem State.allClosed_iff (s : State) : s.allClosed = true ↔ ∀ i, (s.stream i).state = .closed := by
  simp only [allClosed, List.all_eq_true, decide_eq_true_eq]
  refine ⟨fun h i => h _ (by simp [stream]), fun h r hr => ?_⟩
  obtain ⟨k, hk, rfl⟩ := List.getElem_of_mem hr
  rw [Vector.length_toList] at hk
  simpa [stream] using h ⟨k, hk⟩

theorem roleOf_code (role : Role) : roleOf (if role = .a then 0x01 else 0x02) = some role := by cases role <;> rfl

/-- A CONFIGURE with its fields in range passes the checks of any part (R142 to R144). -/
theorem exec_configure {s : State} {q : ReadEntry} (h : AwaitsRecord s q) (tag : Tag) {mask : BitVec 4} (role : Role)
    {epoch limit : Byte} {ack hold sync : BitVec 16} (hm : mask ≠ 0) (he : epoch ≠ 0)
    (hl : 1 ≤ limit.toNat ∧ limit.toNat ≤ 7) (ha : 10 ≤ ack.toNat) (hh : 1 ≤ hold.toNat) (hs : 100 ≤ sync.toNat) :
    exec (.configure tag (mask.setWidth 8) (if role = .a then 0x01 else 0x02) epoch limit ack hold sync) s =
      .next ((s.recordTaken q).takeConfigure tag
        ⟨true, mask, role, epoch, ack.toNat, limit.toNat, hold.toNat, sync.toNat⟩) := by
  have hlow : (mask.setWidth 8).setWidth 4 = mask := BitVec.setWidth_setWidth_of_le mask (by decide)
  have hhigh : mask.setWidth 8 >>> 4 = 0 := by revert mask; decide
  have hcheck : (cleanRecord .configure 0 tag (.configure (mask.setWidth 8) (if role = .a then 0x01 else 0x02) epoch
      limit ack hold sync)).check =
      some (.configure mask role epoch ack.toNat limit.toNat hold.toNat sync.toNat) := by
    simp only [RequestRecord.check, RequestRecord.reservedZero, RequestRecord.inRange, cleanRecord, roleOf_code, hlow,
      hhigh]
    rw [if_pos (by rfl), if_pos ⟨hm, he, ha, hl.1, hl.2, hh, hs⟩]
  exact congrArg _ ((State.completeRecordRead_eq h _).trans (State.processRecord_dispatches hcheck (.inr rfl)))

/-- A lane enters OFF as the closed form of Sys2Proof/Safety.lean has it (R118, R128). -/
theorem Lane.toOff_eq (r : Lane) : r.toOff = r.offFrom := by
  unfold toOff leave offFrom seekingFrom
  split <;> simp_all

/-- What an applied CONFIGURE makes of one lane (R128). -/
theorem Lane.reconfigure_eq (was member : Bool) (changed : Prop) [Decidable changed] (r : Lane) :
    r.reconfigure was member (decide changed) =
      if was = false then if member = false then r else r.seekingFrom
      else if member = false then r.offFrom
      else if changed then r.seekingFrom
      else r := by
  cases was <;> cases member <;> simp [reconfigure, toSeeking_eq, toOff_eq]

/-- No lane comes UP by a CONFIGURE (R128). -/
theorem Lane.up_of_reconfigure {was member changed : Bool} {r : Lane}
    (h : (r.reconfigure was member changed).state = .up) : r.state = .up := by
  have hseek : r.toSeeking.state ≠ .up := nofun
  have hoff : r.toOff.state ≠ .up := nofun
  unfold reconfigure at h
  split at h
  · exact h
  · exact absurd h hseek
  · exact absurd h hoff
  · split at h
    · exact absurd h hseek
    · exact h

/-- With nothing to send, the Transmit Engine hears of a link DOWN in its slots alone (R50). -/
theorem State.transmitLinkDown_idle {s : State} (h : ∀ i, (s.txs i).list = []) :
    s.transmitLinkDown = { s with te.slots := Vector.replicate 4 none } := by
  have htx : (Vector.ofFn fun i => { s.txs i with
      list := (s.txs i).list.map fun e => e.linkDown (s.slotWorkOf i e.msn) }) = s.te.tx := by
    refine Vector.ext fun k hk => ?_
    have hlist : (s.te.tx[k]).list = [] := h ⟨k, hk⟩
    have hsame : ({ s.te.tx[k] with list := [] } : TxStream) = s.te.tx[k] := by rw [← hlist]
    rw [Vector.getElem_ofFn]
    simp only [txs, Fin.getElem_fin, hlist, List.map_nil, hsame]
  rw [transmitLinkDown, htx]

/-- The link state after lanes have changed and none has come UP, with nothing to send: it changes to DOWN or not at
all (R123, R124). -/
theorem State.judgeLink_idle {s : State} (hup : s.anyLaneUp = true → s.lm.linkState = .up)
    (h : ∀ i, (s.txs i).list = []) : ∃ slots link, s.judgeLink = { s with
      te.slots := slots
      lm := { s.lm with
        linkState := link
        linkEvent := if link = s.lm.linkState then s.lm.linkEvent else satInc s.lm.linkEvent
        noticeQueue := if link = s.lm.linkState then s.lm.noticeQueue else [] } } := by
  by_cases hd : s.anyLaneUp = false ∧ s.lm.linkState = .up
  · obtain ⟨hany, hlink⟩ := hd
    refine ⟨Vector.replicate 4 none, .down, ?_⟩
    simp only [judgeLink, hany, hlink]
    rw [transmitLinkDown_idle (by exact h)]
    rfl
  · have hsame : s.judgeLink = s := by
      refine judgeLink_same ⟨fun hl => ?_, hup⟩
      simpa [hl] using hd
    exact ⟨s.te.slots, s.lm.linkState, by rw [hsame]; simp⟩

/-- Settles O12: every stream CLOSED or not is `allClosed`; the lanes change one by one, and none comes UP, so that the
link is judged by `judgeLink_idle`. -/
theorem configureIsApplied : Obligations.ConfigureIsApplied := by
  intro s q h tag mask role epoch limit ack hold sync hm he hl ha hh hs old changed code takes
  have hx : takes = _ := exec_configure h tag role hm he hl ha hh hs
  refine ⟨fun ⟨i, hi⟩ => ?_, fun hidle hagrees => ?_⟩
  · have hbusy : ¬(s.recordTaken q).allClosed = true := fun hc => hi ((State.allClosed_iff _).mp hc i)
    rw [hx, State.takeConfigure, if_neg hbusy]
    exact congrArg _ (State.postReserved_eq _ _)
  · have hclosed : (s.recordTaken q).allClosed = true := (State.allClosed_iff _).mpr fun i => (hidle i).1
    let w : State := { s.recordTaken q with
      lm.lanes := Vector.ofFn fun k =>
        (s.lane k).reconfigure (old.laneMask.getLsbD k.val) (mask.getLsbD k.val) (decide changed)
      lm.roleClash := if old.configured = true ∧ old.role ≠ role then false else s.lm.roleClash }
    have hlane (l : LaneId) : w.lane l =
        (s.lane l).reconfigure (old.laneMask.getLsbD l.val) (mask.getLsbD l.val) (decide changed) :=
      Vector.getElem_ofFn l.isLt
    have hup : w.anyLaneUp = true → w.lm.linkState = .up := fun hw => hagrees.mpr <| by
      obtain ⟨l, hl⟩ := w.anyLaneUp_iff.mp hw
      rw [hlane] at hl
      exact s.anyLaneUp_iff.mpr ⟨l, Lane.up_of_reconfigure hl⟩
    have hlink : LinkAgrees w.judgeLink := w.judgeLink_agrees
    obtain ⟨slots, link, hj⟩ := State.judgeLink_idle (s := w) hup fun i => (hidle i).2
    have ht : takes = .next (State.withPosted [.requestDone 0x01 0 tag .success .none] { w.judgeLink with
        rp.config := ⟨true, mask, role, epoch, ack.toNat, limit.toNat, hold.toNat, sync.toNat⟩ }) := by
      rw [hx, State.takeConfigure, if_pos hclosed]
      exact congrArg _ (State.postReserved_eq _ _)
    rw [hj] at hlink ht
    refine ⟨_, ht, ?_, fun l => ?_, ?_, ?_, ?_, ?_, ?_, ?_, ?_, ?_, ?_, ?_,
      (State.withPosted_congr (s := s.recordTaken q) (by rfl) (by rfl) _).1,
      (State.withPosted_congr (s := s.recordTaken q) (by rfl) (by rfl) _).2⟩
    · rfl
    · exact (hlane l).trans (Lane.reconfigure_eq _ _ _ _)
    · exact hlink
    all_goals rfl

end Sys2Proof.Machine

namespace Sys2Proof.Machine

set_option Elab.async false -- one thread for each lemma would need more memory than the check allows

/-! ### What a request leaves of the ring, the reads and the pins -/

/-- From `s` to `t` the request ring and the Request Processor's part in it, the read tracker, the engine state and what
has left the pins stay. -/
structure RequestKept (s t : State) : Prop where
  rqHead : t.rp.rqHead = s.rp.rqHead
  rqTail : t.rp.rqTail = s.rp.rqTail
  taking : t.rp.taking = s.rp.taking
  tracker : t.hau.tracker = s.hau.tracker
  engine : t.hau.engine = s.hau.engine
  emitted : t.emitted = s.emitted

namespace RequestKept
variable {s t u : State}

theorem refl (s : State) : RequestKept s s := ⟨rfl, rfl, rfl, rfl, rfl, rfl⟩

theorem trans (h : RequestKept s t) (h' : RequestKept t u) : RequestKept s u where
  rqHead := h'.rqHead.trans h.rqHead
  rqTail := h'.rqTail.trans h.rqTail
  taking := h'.taking.trans h.taking
  tracker := h'.tracker.trans h.tracker
  engine := h'.engine.trans h.engine
  emitted := h'.emitted.trans h.emitted

theorem ite {p : Prop} [Decidable p] {a b : State} (ha : p → RequestKept s a) (hb : ¬p → RequestKept s b) :
    RequestKept s (if p then a else b) := by
  split
  · next h => exact ha h
  · next h => exact hb h

/-- The other blocks may change as they will. -/
theorem of_blocks (rp : t.rp = s.rp := by rfl) (hau : t.hau = s.hau := by rfl)
    (emitted : t.emitted = s.emitted := by rfl) : RequestKept s t := by
  constructor <;> simp [rp, hau, emitted]

theorem withPosted (cs : List Completion) (s : State) : RequestKept s (s.withPosted cs) :=
  .ite (fun _ => .refl s) fun _ => by constructor <;> rfl

theorem postReserved (c : Completion) (s : State) : RequestKept s (s.postReserved c) := by
  rw [State.postReserved_eq]
  exact withPosted _ s

theorem postDone (kind : RequestKind) (i : StreamId) (tag : Tag) (x : Status) (b : DoneBody) (s : State) :
    RequestKept s (s.postDone kind i tag x b) := postReserved _ s

/-! ### The ends of streams -/

theorem failList (i : StreamId) (cause : ListFailure) (s : State) : RequestKept s (s.failList i cause) := by
  obtain ⟨cs, ft, heq⟩ := State.retireAll_posts i ((s.txs i).list.map (SendEntry.fail cause))
    ((s.freeSlotsOfStream i).setList i [])
  rw [State.failList, heq]
  exact .trans .of_blocks (withPosted cs _)

theorem enterReleasing (i : StreamId) (cause : ReleaseCause) (s : State) : RequestKept s (s.enterReleasing i cause) := by
  rw [State.enterReleasing_eq]
  exact .ite (fun _ => .trans .of_blocks (withPosted _ _)) fun _ => .of_blocks

/-- The release of the buffer list, after a flush or without one, and the entry to RELEASING (R14 to R17). -/
theorem endStream {i : StreamId} (cause : ReleaseCause) (h : RequestKept s t) :
    RequestKept s ((t.releaseBuffers i).enterReleasing i cause) :=
  (h.trans (u := t.releaseBuffers i) .of_blocks).trans (enterReleasing i cause _)

theorem finishOpen (i : StreamId) (x : Status) (s : State) : RequestKept s (s.finishOpen i x) := by
  unfold State.finishOpen
  dsimp only
  split
  · exact .refl s
  · exact .trans .of_blocks (postDone _ _ _ _ _ _)

/-! ### The requests -/

theorem judgeLink (s : State) : RequestKept s s.judgeLink := by
  obtain ⟨te, link, notices, event, heq⟩ := s.judgeLink_eq
  rw [heq]
  exact .of_blocks

theorem takeConfigure (tag : Tag) (c : ConfigRecord) (s : State) : RequestKept s (s.takeConfigure tag c) := by
  have lanes : RequestKept s (s.reconfigureLanes c.laneMask c.role c.localEpoch) := .trans .of_blocks (judgeLink _)
  exact .ite (fun _ => (lanes.trans (by constructor <;> rfl)).trans (postReserved _ _)) fun _ => postReserved _ s

theorem takeOpen (i : StreamId) (tag : Tag) (s : State) : RequestKept s (s.takeOpen i tag) := by
  unfold State.takeOpen
  split
  · exact .trans .of_blocks (.of_blocks (State.produceNotice_rp _ _) (State.produceNotice_hau _ _)
      (State.produceNotice_emitted _ _))
  · exact postDone _ _ _ _ _ s

theorem takeClose (i : StreamId) (tag : Tag) (mode : CloseMode) (s : State) :
    RequestKept s (s.takeClose i tag mode) := by
  have taken : RequestKept s (s.addClose i tag mode) := .of_blocks
  have stopped (u : State) : RequestKept u (u.setStream i { u.stream i with syncTimer := .stopped }) := .of_blocks
  have flushed (u : State) : RequestKept u (u.flush i .streamClosed) := .of_blocks
  have now (u : State) : RequestKept u (u.closeNow i) := endStream _ ((failList i _ u).trans (flushed _))
  unfold State.takeClose
  dsimp only
  split
  · exact endStream _ (((taken.trans (stopped _)).trans (finishOpen i _ _)).trans (failList i _ _))
  · exact taken.trans (.trans .of_blocks (.ite (fun _ => endStream _ (flushed _)) fun _ => .refl _))
  · exact taken.trans (now _)
  · exact taken.trans (now _)
  · exact endStream _ taken
  · exact postDone _ _ _ _ _ s

theorem dispatch (tag : Tag) (p : Request) (s : State) : RequestKept s (s.dispatch tag p) := by
  cases p with
  | configure mask role epoch ack retry hold sync => exact takeConfigure tag _ s
  | openStream i => exact takeOpen i tag s
  | closeStream i mode => exact takeClose i tag mode s
  | send i a n =>
    unfold State.dispatch State.takeSend
    dsimp only
    split
    · exact postDone _ _ _ _ _ s
    · exact .of_blocks
  | post i a n =>
    unfold State.dispatch State.takePost
    dsimp only
    split
    · exact postDone _ _ _ _ _ s
    · exact .trans .of_blocks (postDone _ _ _ _ _ _)
  | fence scope => exact .ite (fun _ => postReserved _ s) fun _ => .ite (fun _ => postReserved _ s) fun _ => .of_blocks
  | queryStream i clear =>
    have cleared (u : State) : RequestKept u (u.clearStreamCounters i) := .of_blocks
    exact .ite (fun _ => (postDone _ _ _ _ _ s).trans (cleared _)) fun _ => postDone _ _ _ _ _ s
  | queryLink clear =>
    have cleared (u : State) : RequestKept u u.clearLaneCounters := .of_blocks
    exact .ite (fun _ => (postReserved _ s).trans (cleared _)) fun _ => postReserved _ s

theorem processRecord (r : RequestRecord) (s : State) : RequestKept s (s.processRecord r) := by
  unfold State.processRecord
  split
  · exact postReserved _ s
  · exact .ite (fun _ => dispatch _ _ s) fun _ => postReserved _ s

end RequestKept

/-! ### The data of a record read -/

/-- The part that brings the last bytes completes the record read with the record they spell (R140, R180). -/
theorem exec_recordReadComplete_last {s : State} {q : ReadEntry} (h : s.recordRead = some q) {data : List Byte}
    (hl : q.length ≤ (q.received ++ data).length) : exec (.recordReadComplete data) s =
      .next (s.completeRecordRead (recordOf (q.receive data).received)) := by
  simp only [exec, execRecordReadComplete, State.receiveRecordData, h, q.receive_complete data |>.mpr hl, if_true]

/-- Settles O9: the last part takes the record, and no request touches the ring, the reads or the pins
(`RequestKept.processRecord`); an earlier part joins what has come. -/
theorem recordReadCompletes : Obligations.RecordReadCompletes := by
  intro s q data
  refine ⟨fun h hl => ?_, fun h hl => ?_, fun h ht he hl => ?_⟩
  · obtain ⟨rqHead, rqTail, taking, tracker, engine, emitted⟩ :=
      RequestKept.processRecord (recordOf (q.receive data).received) (s.recordTaken q)
    have hx := exec_recordReadComplete_last h.1 hl
    rw [State.completeRecordRead_eq h] at hx
    exact ⟨_, hx, rqHead, taking, rqTail, tracker, engine, emitted⟩
  · have hc : ¬(q.receive data).complete = true := fun hc => absurd (q.receive_complete data |>.mp hc) (not_le.mpr hl)
    have hall : (q.received ++ data).take q.length = q.received ++ data := List.take_of_length_le hl.le
    have hx : s.receiveRecordData data = s.updateRead q.id (q.receive data) := by
      rw [State.receiveRecordData, h]
      exact if_neg hc
    refine congrArg Host.Outcome.next (hx.trans ?_)
    rw [ReadEntry.receive, hall]
    rfl
  · have hh : (s.dropRead q.id).isHalted = false := by simp [State.isHalted, State.dropRead, he]
    have ht' : (s.dropRead q.id).rp.taking = .reading true := ht
    simp only [exec_recordReadComplete_last h hl, State.completeRecordRead, h, State.recordReturned, hh, ht',
      Bool.false_eq_true, if_false]
    rfl

end Sys2Proof.Machine

namespace Sys2Proof.Machine

set_option Elab.async false -- one thread for each lemma would need more memory than the check allows

/-! ### What is refused of a record -/

/-- The byte names no stream (R143). -/
def UnknownStream (b : Byte) : Prop := 64 ≤ b.toNat

/-- The byte is neither of the two codes of a role, a CLOSE mode or a fence scope (R143, R195). -/
def UnknownCode (b : Byte) : Prop := b ≠ 0x01 ∧ b ≠ 0x02

/-- The byte is no clear flag (R143). -/
def UnknownFlag (b : Byte) : Prop := b ≠ 0x00 ∧ b ≠ 0x01

/-- The number is no message length or buffer capacity (R143). -/
def LengthOutOfRange (n : Nat) : Prop := n = 0 ∨ 16384 < n

/-- Some field of a CONFIGURE is out of its range (R143). -/
def BadConfigure (mask role epoch limit : Byte) (ack hold sync : Nat) : Prop :=
  mask = 0 ∨ 16 ≤ mask.toNat ∨ UnknownCode role ∨ epoch = 0 ∨ limit = 0 ∨ 7 < limit.toNat ∨ ack < 10 ∨ hold = 0 ∨
    sync < 100

/-- The scope of a FENCE is unknown, or its stream byte does not go with it (R143, R193). -/
def BadFence (stream scope : Byte) : Prop :=
  UnknownCode scope ∨ (scope = 0x01 ∧ UnknownStream stream) ∨ (scope = 0x02 ∧ stream ≠ 0)

/-- The fields of a record, with its stream byte, do not pass R142 and R143. -/
def RequestBody.Bad (stream : Byte) : RequestBody → Prop
  | .unknown => True
  | .configure mask role epoch limit ack hold sync =>
    stream ≠ 0 ∨ BadConfigure mask role epoch limit ack.toNat hold.toNat sync.toNat
  | .openStream => UnknownStream stream
  | .closeStream mode => UnknownStream stream ∨ UnknownCode mode
  | .send _ n => UnknownStream stream ∨ LengthOutOfRange n.toNat
  | .post _ n => UnknownStream stream ∨ LengthOutOfRange n.toNat
  | .fence scope => BadFence stream scope
  | .queryStream clear => UnknownStream stream ∨ UnknownFlag clear
  | .queryLink clear => stream ≠ 0 ∨ UnknownFlag clear

theorem streamOf_eq_none {b : Byte} : streamOf b = none ↔ UnknownStream b := by
  unfold streamOf UnknownStream
  split <;> simp <;> omega

/-- A byte read by its two codes is refused when it is neither. -/
theorem ofCodes_eq_none {α : Type} {b x y : Byte} {p q : α} :
    (if b = x then some p else if b = y then some q else none) = none ↔ b ≠ x ∧ b ≠ y := by
  split
  · next hx => simp [hx]
  · next hx => split <;> simp_all

theorem roleOf_eq_none {b : Byte} : roleOf b = none ↔ UnknownCode b := ofCodes_eq_none

theorem closeModeOf_eq_none {b : Byte} : closeModeOf b = none ↔ UnknownCode b := ofCodes_eq_none

theorem clearOf_eq_none {b : Byte} : clearOf b = none ↔ UnknownFlag b := ofCodes_eq_none

theorem messageBytesOf_eq_none {n : BitVec 16} : messageBytesOf n = none ↔ LengthOutOfRange n.toNat := by
  unfold messageBytesOf LengthOutOfRange
  split <;> simp <;> omega

/-- A lane mask in range has a lane, and no bit above the four lanes (R143, R193). -/
theorem laneMask_good_iff (mask : Byte) : (mask >>> 4 = 0 ∧ mask.setWidth 4 ≠ 0#4) ↔ ¬(mask = 0 ∨ 16 ≤ mask.toNat) := by
  revert mask
  decide

/-- The checks refuse a record exactly for a nonzero reserved byte or a bad field (R142, R143). -/
theorem RequestRecord.check_eq_none (r : RequestRecord) :
    r.check = none ↔ r.restZero = false ∨ r.body.Bad r.stream := by
  obtain ⟨kind, stream, tag, body, restZero⟩ := r
  cases restZero with
  | false => simp [check, reservedZero]
  | true =>
    cases body with
    | unknown => simp [check, reservedZero, inRange, RequestBody.Bad]
    | configure mask role epoch limit ack hold sync =>
      have hmask := laneMask_good_iff mask
      have hlimit : limit = 0 ↔ limit.toNat = 0 := BitVec.toNat_eq
      simp only [check, reservedZero, inRange, RequestBody.Bad, BadConfigure, ← roleOf_eq_none]
      cases roleOf role with
      | none => simp
      | some x =>
        simp only [Bool.true_and, decide_eq_true_eq, reduceCtorEq, false_or, ite_eq_right_iff, imp_false, hlimit]
        grind
    | openStream => simp [check, reservedZero, inRange, RequestBody.Bad, streamOf_eq_none]
    | closeStream mode =>
      simp only [check, reservedZero, inRange, RequestBody.Bad, ← streamOf_eq_none, ← closeModeOf_eq_none]
      cases streamOf stream <;> cases closeModeOf mode <;> simp
    | send a n =>
      simp only [check, reservedZero, inRange, RequestBody.Bad, ← streamOf_eq_none, ← messageBytesOf_eq_none]
      cases streamOf stream <;> cases messageBytesOf n <;> simp
    | post a n =>
      simp only [check, reservedZero, inRange, RequestBody.Bad, ← streamOf_eq_none, ← messageBytesOf_eq_none]
      cases streamOf stream <;> cases messageBytesOf n <;> simp
    | fence scope =>
      simp only [check, reservedZero, inRange, RequestBody.Bad, BadFence, UnknownCode, ← streamOf_eq_none]
      by_cases h2 : scope = 0x02#8
      · subst h2
        by_cases hs : stream = 0#8 <;> simp [hs]
      · by_cases h1 : scope = 0x01#8
        · subst h1
          simp
        · simp [h1, h2]
    | queryStream clear =>
      simp only [check, reservedZero, inRange, RequestBody.Bad, ← streamOf_eq_none, ← clearOf_eq_none]
      cases streamOf stream <;> cases clearOf clear <;> simp
    | queryLink clear =>
      simp only [check, reservedZero, inRange, RequestBody.Bad, ← clearOf_eq_none]
      by_cases hs : stream = 0#8 <;> simp [hs]

/-- The kinds that R144 exempts from the check of the configured flag. -/
def RequestBody.exempt : RequestBody → Bool
  | .configure _ _ _ _ _ _ _ => true
  | .queryLink _ => true
  | _ => false

/-- A record that passes its checks is exempt by its kind (R144). -/
theorem RequestRecord.exempt_of_check {r : RequestRecord} {p : Request} (h : r.check = some p) :
    p.exempt = r.body.exempt := by
  have hrange : r.inRange = some p := by
    unfold check at h
    split at h
    · exact h
    · exact absurd h nofun
  cases hb : r.body <;> simp only [inRange, hb] at hrange <;>
    grind [Request.exempt, RequestBody.exempt, Option.map_eq_some_iff]

/-- The command `c` is the taking of a record with this kind, stream and tag: a bad one is refused BAD_REQUEST, and any
other, but a CONFIGURE or a QUERY_LINK, is refused NOT_CONFIGURED while the part is not configured (R142, R144). -/
def State.Judges (s : State) (q : ReadEntry) (c : Instr) (kind stream : Byte) (tag : Tag) (bad : Prop) : Prop :=
  let refused (status : Status) := Host.Outcome.next (φ := Fault) (ρ := Refusal)
    ((s.recordTaken q).withPosted [.requestDone kind stream tag status .none])
  (bad → exec c s = refused .badRequest) ∧
    (¬bad → s.rp.config.configured = false → kind ≠ 0x01 → kind ≠ 0x08 → exec c s = refused .notConfigured)

section
variable {s : State} {q : ReadEntry} {c : Instr} {bad : Prop}

theorem exec_judged {r : RequestRecord} (h : AwaitsRecord s q) (hx : exec c s = .next (s.completeRecordRead r))
    (hexempt : r.body.exempt = true → r.kind = 0x01 ∨ r.kind = 0x08)
    (hbad : r.restZero = false ∨ r.body.Bad r.stream ↔ bad) : s.Judges q c r.kind r.stream r.tag bad := by
  rw [State.Judges, hx, State.completeRecordRead_eq h, ← hbad, ← r.check_eq_none]
  refine ⟨fun hnone => ?_, fun hsome hc h1 h8 => ?_⟩
  · rw [State.processRecord, hnone]
    exact congrArg _ (State.postReserved_eq _ _)
  · obtain ⟨p, hp⟩ := Option.ne_none_iff_exists'.mp hsome
    have hpe : p.exempt = false := by
      rw [r.exempt_of_check hp, Bool.eq_false_iff]
      exact fun he => (hexempt he).elim h1 h8
    have hc' : (s.recordTaken q).rp.config.configured = false := hc
    rw [State.processRecord, hp]
    simp only [hc', hpe, Bool.or_false, Bool.false_eq_true, if_false]
    exact congrArg _ (State.postReserved_eq _ _)

/-- A request command is the taking of its own record, which has nothing in its reserved bytes (assumption 3). -/
theorem exec_judged_clean (h : AwaitsRecord s q) (kind : RequestKind) {stream : Byte} {tag : Tag} (body : RequestBody)
    (hx : exec c s = .next (s.completeRecordRead (cleanRecord kind stream tag body)))
    (hexempt : body.exempt = true → kind.code = 0x01 ∨ kind.code = 0x08) (hbad : body.Bad stream ↔ bad) :
    s.Judges q c kind.code stream tag bad :=
  exec_judged h hx hexempt ((or_iff_right nofun).trans hbad)
end

/-! ### The bytes of a record, checked -/

/-- Some byte of a record from position `k` on is not zero. -/
def NonzeroFrom (data : List Byte) (k : Nat) : Prop := ∃ j, k ≤ j ∧ j < 64 ∧ data.getD j 0 ≠ 0

theorem drop_zero_eq_false {data : List Byte} (hd : data.length = 64) (k : Nat) :
    (data.drop k).all (fun b => decide (b = 0)) = false ↔ NonzeroFrom data k := by
  rw [List.all_eq_false]
  constructor
  · rintro ⟨b, hb, hz⟩
    obtain ⟨j, hj, rfl⟩ := List.getElem_of_mem hb
    rw [List.length_drop] at hj
    refine ⟨k + j, by omega, by omega, ?_⟩
    rw [List.getD_eq_getElem _ _ (by omega)]
    simpa using hz
  · rintro ⟨j, hk, hj, hz⟩
    rw [List.getD_eq_getElem _ _ (by omega)] at hz
    refine ⟨data[j], ?_, by simpa using hz⟩
    exact List.mem_drop_iff_getElem.mpr ⟨j - k, by omega, by congr 1; omega⟩

/-- Where a record has a reserved byte that is not zero (R193). -/
theorem recordOf_restZero {data : List Byte} (hd : data.length = 64) : (recordOf data).restZero = false ↔
    data.getD 2 0 ≠ 0 ∨ data.getD 3 0 ≠ 0 ∨ NonzeroFrom data (8 + (bodyOf data).bytes.length) := by
  rw [← drop_zero_eq_false hd, ← or_assoc]
  exact Bool.and_eq_false_iff.trans (or_congr_left (decide_eq_false_iff_not.trans not_and_or))

/-- A record is exempt from the check of the configured flag by its kind byte (R144). -/
theorem bodyOf_exempt {data : List Byte} (h : (bodyOf data).exempt = true) :
    data.getD 0 0 = 0x01 ∨ data.getD 0 0 = 0x08 := by
  simp only [bodyOf, byteAt] at h
  grind [RequestBody.exempt]

/-- The eight kinds of R195, and the unknown ones. -/
theorem kind_cases (b : Byte) : b = 0x01 ∨ b = 0x02 ∨ b = 0x03 ∨ b = 0x04 ∨ b = 0x05 ∨ b = 0x06 ∨ b = 0x07 ∨ b = 0x08 ∨
    ∀ k : Nat, k < 9 → k ≠ 0 → b ≠ BitVec.ofNat 8 k := by
  revert b
  decide

/-- The fields of a record's kind are bad, or a byte behind them is not zero (R142, R143, R193). -/
def FieldsBad (data : List Byte) : Prop :=
  (bodyOf data).Bad (data.getD 1 0) ∨ NonzeroFrom data (8 + (bodyOf data).bytes.length)

theorem recordOf_bad {data : List Byte} (hd : data.length = 64) :
    (recordOf data).restZero = false ∨ (recordOf data).body.Bad (recordOf data).stream ↔
      data.getD 2 0 ≠ 0 ∨ data.getD 3 0 ≠ 0 ∨ FieldsBad data := by
  rw [recordOf_restZero hd, or_assoc, or_assoc]
  exact or_congr_right (or_congr_right or_comm)

/-- A property that is known for each kind of R195 holds of a record by its kind byte. -/
theorem iff_by_kind {b : Byte} {p₁ p₂ p₃ p₄ p₅ p₆ p₇ p₈ bad : Prop}
    (unknown : (∀ k : Nat, k < 9 → k ≠ 0 → b ≠ BitVec.ofNat 8 k) → bad) (configure : b = 0x01 → (bad ↔ p₁))
    (openStream : b = 0x02 → (bad ↔ p₂)) (closeStream : b = 0x03 → (bad ↔ p₃)) (send : b = 0x04 → (bad ↔ p₄))
    (post : b = 0x05 → (bad ↔ p₅)) (fence : b = 0x06 → (bad ↔ p₆)) (queryStream : b = 0x07 → (bad ↔ p₇))
    (queryLink : b = 0x08 → (bad ↔ p₈)) : bad ↔ (∀ k : Nat, k < 9 → k ≠ 0 → b ≠ BitVec.ofNat 8 k) ∨
      (b = 0x01 ∧ p₁) ∨ (b = 0x02 ∧ p₂) ∨ (b = 0x03 ∧ p₃) ∨ (b = 0x04 ∧ p₄) ∨ (b = 0x05 ∧ p₅) ∨ (b = 0x06 ∧ p₆) ∨
      (b = 0x07 ∧ p₇) ∨ (b = 0x08 ∧ p₈) := by
  refine ⟨fun hbad => ?_, ?_⟩
  · obtain h | h | h | h | h | h | h | h | h := kind_cases b
    · exact .inr (.inl ⟨h, (configure h).mp hbad⟩)
    · exact .inr (.inr (.inl ⟨h, (openStream h).mp hbad⟩))
    · exact .inr (.inr (.inr (.inl ⟨h, (closeStream h).mp hbad⟩)))
    · exact .inr (.inr (.inr (.inr (.inl ⟨h, (send h).mp hbad⟩))))
    · exact .inr (.inr (.inr (.inr (.inr (.inl ⟨h, (post h).mp hbad⟩)))))
    · exact .inr (.inr (.inr (.inr (.inr (.inr (.inl ⟨h, (fence h).mp hbad⟩))))))
    · exact .inr (.inr (.inr (.inr (.inr (.inr (.inr (.inl ⟨h, (queryStream h).mp hbad⟩)))))))
    · exact .inr (.inr (.inr (.inr (.inr (.inr (.inr (.inr ⟨h, (queryLink h).mp hbad⟩)))))))
    · exact .inl h
  · rintro (h | ⟨h, hp⟩ | ⟨h, hp⟩ | ⟨h, hp⟩ | ⟨h, hp⟩ | ⟨h, hp⟩ | ⟨h, hp⟩ | ⟨h, hp⟩ | ⟨h, hp⟩)
    · exact unknown h
    · exact (configure h).mpr hp
    · exact (openStream h).mpr hp
    · exact (closeStream h).mpr hp
    · exact (send h).mpr hp
    · exact (post h).mpr hp
    · exact (fence h).mpr hp
    · exact (queryStream h).mpr hp
    · exact (queryLink h).mpr hp

/-- The 16-bit field of a record at position `k` (R193). -/
def wordAt (data : List Byte) (k : Nat) : BitVec 16 := BitVec.ofNat 16 (leNat (field data k 2))

/-- The two bytes of a 16-bit field, the low one first (R193). -/
theorem wordAt_toNat (data : List Byte) (k : Nat) :
    (wordAt data k).toNat = (data.getD k 0).toNat + 256 * (data.getD (k + 1) 0).toNat := by
  have hlow := (data.getD k 0).isLt
  have hhigh := (data.getD (k + 1) 0).isLt
  have hsum : leNat (field data k 2) = (data.getD k 0).toNat + 256 * (data.getD (k + 1) 0).toNat := rfl
  rw [wordAt, BitVec.toNat_ofNat, hsum]
  omega

/-! The fields of each kind (R193, R195). -/

section
variable {data : List Byte}

theorem bodyOf_configure (h : data.getD 0 0 = 0x01) : bodyOf data = .configure (data.getD 8 0) (data.getD 9 0)
    (data.getD 10 0) (data.getD 11 0) (wordAt data 12) (wordAt data 14) (wordAt data 16) := if_pos h

theorem bodyOf_openStream (h : data.getD 0 0 = 0x02) : bodyOf data = .openStream := by
  simp only [bodyOf, byteAt, h]
  rfl

theorem bodyOf_closeStream (h : data.getD 0 0 = 0x03) : bodyOf data = .closeStream (data.getD 8 0) := by
  simp only [bodyOf, byteAt, h]
  rfl

theorem bodyOf_send (h : data.getD 0 0 = 0x04) :
    bodyOf data = .send (BitVec.ofNat 64 (leNat (field data 8 8))) (wordAt data 16) := by
  simp only [bodyOf, byteAt, h]
  rfl

theorem bodyOf_post (h : data.getD 0 0 = 0x05) :
    bodyOf data = .post (BitVec.ofNat 64 (leNat (field data 8 8))) (wordAt data 16) := by
  simp only [bodyOf, byteAt, h]
  rfl

theorem bodyOf_fence (h : data.getD 0 0 = 0x06) : bodyOf data = .fence (data.getD 8 0) := by
  simp only [bodyOf, byteAt, h]
  rfl

theorem bodyOf_queryStream (h : data.getD 0 0 = 0x07) : bodyOf data = .queryStream (data.getD 8 0) := by
  simp only [bodyOf, byteAt, h]
  rfl

theorem bodyOf_queryLink (h : data.getD 0 0 = 0x08) : bodyOf data = .queryLink (data.getD 8 0) := by
  simp only [bodyOf, byteAt, h]
  rfl

theorem bodyOf_unknown (h : ∀ k : Nat, k < 9 → k ≠ 0 → data.getD 0 0 ≠ BitVec.ofNat 8 k) : bodyOf data = .unknown := by
  have other (k : Nat) (hk : k < 9) (hz : k ≠ 0) : byteAt data 0 ≠ BitVec.ofNat 8 k := h k hk hz
  simp only [bodyOf]
  refine (if_neg (other 1 ?_ ?_)).trans <| (if_neg (other 2 ?_ ?_)).trans <| (if_neg (other 3 ?_ ?_)).trans <|
    (if_neg (other 4 ?_ ?_)).trans <| (if_neg (other 5 ?_ ?_)).trans <| (if_neg (other 6 ?_ ?_)).trans <|
    (if_neg (other 7 ?_ ?_)).trans <| if_neg (other 8 ?_ ?_)
  all_goals decide
end

/-- Settles O11: a record is refused by `exec_judged`. The record of a request command has nothing reserved in it; the
bad bytes of a record as read are those of its kind (`iff_by_kind`). -/
theorem badRecordsAreRefused : Obligations.BadRecordsAreRefused := by
  intro s q h judged noStream noCode noFlag noLength badConfigure badFence
  refine ⟨fun data hreceived hlength hd => ?_, fun stream tag => ⟨?_, ?_, ?_, ?_, ?_, ?_⟩⟩
  · intro b half rest
    have hdata : (q.receive data).received = data := by
      rw [ReadEntry.receive, hreceived, hlength]
      exact List.take_of_length_le hd.le
    have hx : exec (.recordReadComplete data) s = .next (s.completeRecordRead (recordOf data)) := by
      rw [exec_recordReadComplete_last h.1 (by rw [hreceived, hlength]; exact hd.ge), hdata]
    have fields {body : RequestBody} (hb : bodyOf data = body) :
        FieldsBad data ↔ body.Bad (b 1) ∨ rest (8 + body.bytes.length) := by
      rw [FieldsBad, hb]
      exact .rfl
    refine exec_judged h hx bodyOf_exempt ((recordOf_bad hd).trans (or_congr_right (or_congr_right (iff_by_kind
      (fun hk => (fields (bodyOf_unknown hk)).mpr (.inl trivial)) (fun hk => ?_)
      (fun hk => fields (bodyOf_openStream hk)) (fun hk => (fields (bodyOf_closeStream hk)).trans or_assoc)
      (fun hk => ?_) (fun hk => ?_) (fun hk => fields (bodyOf_fence hk))
      (fun hk => (fields (bodyOf_queryStream hk)).trans or_assoc)
      (fun hk => (fields (bodyOf_queryLink hk)).trans or_assoc)))))
    · rw [fields (bodyOf_configure hk), RequestBody.Bad, wordAt_toNat, wordAt_toNat, wordAt_toNat]
      exact or_assoc
    · rw [fields (bodyOf_send hk), RequestBody.Bad, wordAt_toNat]
      exact or_assoc
    · rw [fields (bodyOf_post hk), RequestBody.Bad, wordAt_toNat]
      exact or_assoc
  · exact fun mask role epoch limit ack hold sync => exec_judged_clean h .configure
      (.configure mask role epoch limit ack hold sync) rfl (fun _ => .inl rfl) (or_iff_right (not_not.mpr rfl))
  · exact exec_judged_clean h .openStream .openStream rfl nofun .rfl
  · exact fun mode => exec_judged_clean h .closeStream (.closeStream mode) rfl nofun .rfl
  · exact fun a n => ⟨exec_judged_clean h .send (.send a n) rfl nofun .rfl,
      exec_judged_clean h .post (.post a n) rfl nofun .rfl⟩
  · exact fun scope => exec_judged_clean h .fence (.fence scope) rfl nofun .rfl
  · exact fun clear => ⟨exec_judged_clean h .queryStream (.queryStream clear) rfl nofun .rfl,
      exec_judged_clean h .queryLink (.queryLink clear) rfl (fun _ => .inr rfl) (or_iff_right (not_not.mpr rfl))⟩

end Sys2Proof.Machine

namespace Sys2Proof.Machine

set_option Elab.async false -- one thread for each lemma would need more memory than the check allows

/-! ### What leaves the backlog, the write queue and the owed interrupt -/

section
variable {s : State} {p : PostedRecord}

theorem State.backlogMove_of_room {rest : List PostedRecord} (he : s.hau.engine ≠ .halted)
    (hb : s.cp.backlog = p :: rest) (hroom : s.hau.writeQueue.length < 16) :
    s.backlogMove = { s with cp.backlog := rest, hau.writeQueue := s.hau.writeQueue ++ [.record p] } := by
  have hspace : s.writeRoom = true := decide_eq_true hroom
  simp [backlogMove, hb, hspace, isHalted, he]

theorem State.backlogMove_of_full (hfull : 16 ≤ s.hau.writeQueue.length) : s.backlogMove = s := by
  have hspace : s.writeRoom = false := decide_eq_false (not_lt.mpr hfull)
  unfold backlogMove
  split
  · rfl
  · simp [hspace]

theorem State.recordWriteDeparts_of_record {rest : List HostWrite} (hq : s.hau.writeQueue = .record p :: rest) :
    s.recordWriteDeparts = { s with
      hau.writeQueue := rest
      hau.interruptOwed := s.hau.interruptOwed.map fun n => n - 1
      emitted := .hostWrite p.address p.bytes :: s.emitted } := by
  simp only [recordWriteDeparts, hq, emit]

theorem State.interruptMessage_of_due (enabled : Bool) (hdue : s.hau.interruptOwed = some 0) :
    s.interruptMessage enabled = { s with
      hau.interruptOwed := none
      emitted := if enabled then .interruptMessage :: s.emitted else s.emitted } := by
  rw [interruptMessage, if_pos hdue]
  cases enabled <;> rfl

theorem State.interruptMessage_of_not_due (enabled : Bool) (hnot : s.hau.interruptOwed ≠ some 0) :
    s.interruptMessage enabled = s := if_neg hnot

end

/-! ### The 32 bytes of a completion record (R194, R195) -/

theorem DoneBody.bytes_length_le (body : DoneBody) : body.bytes.length ≤ 20 := by
  cases body <;> simp [bytes, leBytes_length]

/-- The layout of every kind leaves room in the 32 bytes (R194). -/
theorem Completion.bytes_length_le (phase : Bool) (c : Completion) : (c.bytes phase).length ≤ 32 := by
  cases c with
  | requestDone kind stream tag status body =>
    have hbody := body.bytes_length_le
    simp only [bytes, List.length_append, List.length_cons, List.length_nil, leBytes_length]
    omega
  | arrival => simp [bytes, leBytes_length]
  | bufferReturn => simp [bytes, leBytes_length]
  | streamEvent => simp [bytes]
  | linkEvent => simp [bytes]

theorem PostedRecord.bytes_length (p : PostedRecord) : p.bytes.length = 32 := by
  have hnamed := p.content.bytes_length_le p.phase
  simp only [bytes, Config.completionBytes, List.length_append, List.length_replicate]
  omega

/-- A tag is written as its two halves, the low one first. -/
theorem leBytes_four_eq_halves (n : Nat) : leBytes 4 n = leBytes 2 (n % 65536) ++ leBytes 2 (n / 65536) := by
  have hlow : BitVec.ofNat 8 n = BitVec.ofNat 8 (n % 65536) :=
    BitVec.eq_of_toNat_eq (by simp only [BitVec.toNat_ofNat]; omega)
  have hnext : BitVec.ofNat 8 (n / 256) = BitVec.ofNat 8 (n % 65536 / 256) :=
    BitVec.eq_of_toNat_eq (by simp only [BitVec.toNat_ofNat]; omega)
  have hhalf : n / 256 / 256 = n / 65536 := Nat.div_div_eq_div_mul n 256 256
  simp only [leBytes, hlow, hnext, hhalf, List.cons_append, List.nil_append]

theorem phaseByte_eq (phase : Bool) : (BitVec.ofBool phase).setWidth 8 = if phase then (0x01 : Byte) else 0x00 := by
  cases phase <;> rfl

theorem zero_append_nibble (x : BitVec 4) : (0#4 ++ x : Byte) = x.setWidth 8 := by
  revert x
  decide

theorem genByte_eq_setWidth (g : Gen) : genByte g = g.setWidth 8 := zero_append_nibble g

/-- The lanes of a report in the order of their numbers. -/
theorem LinkReport.lanes_toList (r : LinkReport) : r.lanes.toList = (List.finRange 4).map fun l => r.lanes[l] :=
  List.ext_getElem (by simp) fun _ _ _ => by simp

theorem LinkReport.lanes_flatMap (r : LinkReport) (f : LaneReport → List Byte) :
    r.lanes.toList.flatMap f = (List.finRange 4).flatMap fun l => f r.lanes[l] := by
  rw [lanes_toList, List.flatMap_map]

/-! The codes of R195 that are written as a choice between two values. -/

theorem LinkState.code_eq_ite (x : LinkState) : x.code = if x = .up then 0x01 else 0x00 := by cases x <;> rfl

theorem CloseMode.code_eq_ite (x : CloseMode) : x.code = if x = .graceful then 0x01 else 0x02 := by cases x <;> rfl

theorem FenceScope.code_eq_ite (x : FenceScope) : x.code = if x = .all then 0x02 else 0x01 := by cases x <;> rfl

theorem ArrivalStatus.code_eq_ite (x : ArrivalStatus) : x.code = if x = .oversize then 0x01 else 0x00 := by
  cases x <;> rfl

theorem EventKind.code_eq_ite (x : EventKind) : x.code = if x = .resynced then 0x02 else 0x01 := by cases x <;> rfl

/-- Settles O46: each command by its equation in the case at hand; the 32 bytes kind by kind, with the codes and the
fields of a REQUEST_DONE read first. -/
theorem recordsAndInterruptLeave : Obligations.RecordsAndInterruptLeave := by
  intro s p
  refine ⟨fun rest he hb hroom => congrArg _ (State.backlogMove_of_room he hb hroom),
    fun hfull => congrArg _ (State.backlogMove_of_full hfull),
    fun rest hq => ⟨p.bytes_length, congrArg _ (State.recordWriteDeparts_of_record hq)⟩,
    fun enabled hdue => congrArg _ (State.interruptMessage_of_due enabled hdue),
    fun enabled hnot => congrArg _ (State.interruptMessage_of_not_due enabled hnot), ?_⟩
  intro two four failure code streamState laneState link own named
  have hfour (t : Tag) : leBytes 4 t.toNat = four t := leBytes_four_eq_halves t.toNat
  have hcode (x : Status) : x.code = code x := by
    cases x with
    | sendFailed f => cases f <;> rfl
    | _ => rfl
  have hstream (x : StreamState) : x.code = streamState x := by cases x <;> rfl
  have hlane (x : LaneState) : x.code = laneState x := by cases x <;> rfl
  have hlink (x : LinkState) : x.code = link x := x.code_eq_ite
  have hown (body : DoneBody) : body.bytes = own body := by
    cases body with
    | closeDone mode => exact congrArg (fun b => [b]) mode.code_eq_ite
    | fenceDone scope failures awaited => rw [DoneBody.bytes, scope.code_eq_ite]; rfl
    | streamDone r => rw [DoneBody.bytes, hstream, genByte_eq_setWidth]; rfl
    | linkDone r => simp only [DoneBody.bytes, r.lanes_flatMap, hlane, hlink]; rfl
    | _ => rfl
  have hnamed : p.content.bytes p.phase = named := by
    obtain ⟨address, phase, content⟩ := p
    cases content with
    | requestDone kind stream tag status body =>
      simp only [Completion.bytes, phaseByte_eq, hfour, hcode, hown]; rfl
    | arrival i tag g m n status =>
      simp only [Completion.bytes, phaseByte_eq, hfour, genByte_eq_setWidth, status.code_eq_ite]; rfl
    | bufferReturn i tag g reason =>
      simp only [Completion.bytes, phaseByte_eq, hfour, genByte_eq_setWidth]
      cases reason <;> rfl
    | streamEvent i e =>
      obtain ⟨kind, gen, count⟩ := e
      simp only [Completion.bytes, phaseByte_eq, genByte_eq_setWidth, kind.code_eq_ite]
      cases kind with
      | faulted cause => cases cause <;> rfl
      | resynced => rfl
    | linkEvent state lanes epoch count =>
      simp only [Completion.bytes, phaseByte_eq, zero_append_nibble, hlink]; rfl
  exact ⟨p.bytes_length, congrArg (fun bs : List Byte => bs ++ List.replicate (32 - bs.length) 0) hnamed⟩

end Sys2Proof.Machine

namespace Sys2Proof.Machine

set_option Elab.async false -- one thread for each lemma would need more memory than the check allows

/-! ### What leaves the engine state alone

The engine state changes at a reset, at a write to CONTROL and at the failure of a read (R175, R178, R181). Every other
operation that a command is made of leaves it as it is. -/

theorem State.engine_ite {p : Prop} [Decidable p] {x : EngineState} {a b : State} (ha : p → a.hau.engine = x)
    (hb : ¬p → b.hau.engine = x) : (if p then a else b).hau.engine = x := by
  split
  · next h => exact ha h
  · next h => exact hb h

section
variable (s : State) (i : StreamId) (l : LaneId)

/-! Postings, the ends of streams and generations. -/

@[simp] theorem State.judgeInterrupt_engine (before : Bool) :
    (State.judgeInterrupt before s).hau.engine = s.hau.engine := by
  obtain ⟨o, ho⟩ := judgeInterrupt_eq before s
  rw [ho]

@[simp] theorem State.postRecord_engine (c : Completion) : (s.postRecord c).hau.engine = s.hau.engine := by
  rw [postRecord_eq]
  rfl

@[simp] theorem State.closeIfReleased_engine : (s.closeIfReleased i).hau.engine = s.hau.engine := by
  rw [closeIfReleased_eq]
  exact engine_ite (fun _ => withPosted_engine _ _) fun _ => rfl

@[simp] theorem State.finishOpen_engine (x : Status) : (s.finishOpen i x).hau.engine = s.hau.engine :=
  (RequestKept.finishOpen i x s).engine

@[simp] theorem State.reportFault_engine (f : FaultReport) : (s.reportFault i f).hau.engine = s.hau.engine :=
  (reportFault_frame i f s).2.1

@[simp] theorem State.endDrainIfEmpty_engine : (s.endDrainIfEmpty i).hau.engine = s.hau.engine :=
  engine_ite (fun _ => enterReleasing_engine i _ _) fun _ => rfl

@[simp] theorem State.retire_engine : (s.retire i).hau.engine = s.hau.engine :=
  engine_ite (fun _ => rfl) fun _ => (endDrainIfEmpty_engine _ i).trans (retireAll_engine i _ _)

@[simp] theorem State.sendSync_engine : (s.sendSync i).hau.engine = s.hau.engine := by simp [sendSync]

@[simp] theorem State.resync_engine (g : Gen) : (s.resync i g).hau.engine = s.hau.engine := by
  have emptied : (((s.failList i .peerResync).flush i .streamResync).resetSequences i).hau.engine = s.hau.engine :=
    failList_engine i _ s
  simp [resync, recordEvent, emptied]

@[simp] theorem State.syncOpening_engine (g : Gen) : (s.syncOpening i g).hau.engine = s.hau.engine := by
  refine engine_ite (fun _ => by simp) fun _ => ?_
  split
  · simp [adopt]
  · simp

@[simp] theorem State.syncOpened_engine (g : Gen) : (s.syncOpened i g).hau.engine = s.hau.engine :=
  engine_ite (fun _ => by simp) fun _ => resync_engine s i g

@[simp] theorem State.syncArrives_engine (g : Gen) : (s.syncArrives i g).hau.engine = s.hau.engine := by
  unfold syncArrives
  split <;> simp

@[simp] theorem State.syncAckArrives_engine (g : Gen) : (s.syncAckArrives i g).hau.engine = s.hau.engine :=
  engine_ite (fun _ => by simp) fun _ => rfl

@[simp] theorem State.syncExpiry_engine : (s.syncExpiry i).hau.engine = s.hau.engine :=
  engine_ite (fun _ => rfl) fun _ => engine_ite (fun _ => sendSync_engine s i) fun _ => rfl

/-! Send entries and slicer slots. -/

@[simp] theorem State.applyOutcome_engine (g : Gen) (m : Msn) (x : EntryState) :
    (s.applyOutcome i g m x).hau.engine = s.hau.engine := by
  unfold applyOutcome
  split
  · rfl
  · exact engine_ite (fun _ => rfl) fun _ => retire_engine _ i

@[simp] theorem State.applyDefer_engine (g : Gen) (m : Msn) (a : Attempt) :
    (s.applyDefer i g m a).hau.engine = s.hau.engine := by
  unfold applyDefer
  split
  · rfl
  · exact engine_ite (fun _ => rfl) fun _ => rfl

@[simp] theorem State.applyNotOpen_engine (g : Gen) (m : Msn) : (s.applyNotOpen i g m).hau.engine = s.hau.engine :=
  engine_ite (fun _ => reportFault_engine s i _) fun _ => rfl

@[simp] theorem State.ackExpiry_engine (m : Msn) : (s.ackExpiry i m).hau.engine = s.hau.engine := by
  refine engine_ite (fun _ => rfl) fun _ => ?_
  split
  · rfl
  · exact engine_ite (fun _ => engine_ite (fun _ => reportFault_engine _ i _) fun _ => rfl) fun _ => rfl

@[simp] theorem State.holdoffExpiry_engine (m : Msn) : (s.holdoffExpiry i m).hau.engine = s.hau.engine := by
  refine engine_ite (fun _ => rfl) fun _ => ?_
  split
  · rfl
  · exact engine_ite (fun _ => rfl) fun _ => rfl

@[simp] theorem State.slotFill_engine : s.slotFill.hau.engine = s.hau.engine := by
  refine engine_ite (fun _ => ?_) fun _ => rfl
  split
  · split <;> rfl
  · rfl

@[simp] theorem State.acceptSlice_engine (k : SlotId) (w : SlotWork) (e : SendEntry) (data : List Byte) :
    (s.acceptSlice l k w e data).hau.engine = s.hau.engine := engine_ite (fun _ => rfl) fun _ => rfl

@[simp] theorem State.placement_engine : s.placement.hau.engine = s.hau.engine := by
  refine engine_ite (fun _ => rfl) fun _ => ?_
  split
  · rfl
  · split
    · rfl
    · split
      · rfl
      · split
        · rfl
        · split
          · exact acceptSlice_engine s _ _ _ _ _
          · rfl

/-! Lanes and the link. -/

@[simp] theorem State.transmitLinkUp_engine : s.transmitLinkUp.hau.engine = s.hau.engine :=
  engine_ite (fun _ => rfl) fun _ => rfl

@[simp] theorem State.judgeLink_engine : s.judgeLink.hau.engine = s.hau.engine := (RequestKept.judgeLink s).engine

@[simp] theorem State.seekLane_engine : (s.seekLane l).hau.engine = s.hau.engine := judgeLink_engine _

@[simp] theorem State.transmit_engine : (s.transmit l).hau.engine = s.hau.engine := by
  unfold transmit
  split
  · rfl
  · rfl
  · rfl
  · split <;> rfl

@[simp] theorem State.hearBad_engine : (s.hearBad l).hau.engine = s.hau.engine := by
  refine engine_ite (fun _ => rfl) fun _ => ?_
  dsimp only
  split
  · rfl
  · rfl
  · exact engine_ite (fun _ => seekLane_engine _ l) fun _ => rfl

@[simp] theorem State.silence_engine : (s.silence l).hau.engine = s.hau.engine :=
  engine_ite (fun _ => rfl) fun _ => engine_ite (fun _ => seekLane_engine s l) fun _ => rfl

/-- A good unit that an UP lane passes on, if what handles it leaves the engine state alone (R113). -/
theorem State.hearUnit_engine {act : State → State} (ha : ∀ u : State, (act u).hau.engine = u.hau.engine) :
    (s.hearUnit l act).hau.engine = s.hau.engine := by
  refine engine_ite (fun _ => rfl) fun _ => ?_
  split
  · rfl
  · rfl
  · exact seekLane_engine s l
  · exact ha _

@[simp] theorem State.restartOn_engine (epoch : Byte) : (s.restartOn l epoch).hau.engine = s.hau.engine := by
  have told : (s.restartBegun l epoch).partnerRestart.hau.engine = s.hau.engine := partnerRestart_engine _
  rw [restartOn_eq]
  exact engine_ite (fun _ => (transmitLinkUp_engine _).trans told) fun _ => told

@[simp] theorem State.seekingAlign_engine (role : Role) : (s.seekingAlign l role).hau.engine = s.hau.engine :=
  engine_ite (fun _ => rfl) fun _ => engine_ite (fun _ => rfl) fun _ => rfl

@[simp] theorem State.alignedAlign_engine (role : Role) (epoch : Byte) (ready : Bool) :
    (s.alignedAlign l role epoch ready).hau.engine = s.hau.engine :=
  engine_ite (fun _ => seekLane_engine _ l) fun _ =>
    engine_ite (fun _ => engine_ite (fun _ => judgeLink_engine _) fun _ => restartOn_engine s l epoch) fun _ => rfl

@[simp] theorem State.hearAlign_engine (role : Role) (epoch : Byte) (ready : Bool) :
    (s.hearAlign l role epoch ready).hau.engine = s.hau.engine := by
  refine engine_ite (fun _ => rfl) fun _ => ?_
  dsimp only
  split
  · rfl
  · exact seekingAlign_engine _ l role
  · exact alignedAlign_engine _ l role epoch ready
  · exact engine_ite (fun _ => rfl) fun _ => seekLane_engine _ l

/-! The Receive Engine. -/

@[simp] theorem State.deliverUpTo_engine (n : Nat) : (s.deliverUpTo i n).hau.engine = s.hau.engine := by
  induction n generalizing s with
  | zero => rfl
  | succ n ih =>
    unfold deliverUpTo
    split
    · rfl
    · exact ih _

@[simp] theorem State.deliveryCheck_engine : (s.deliveryCheck i).hau.engine = s.hau.engine := deliverUpTo_engine s i _

@[simp] theorem State.setContext_engine (c : ReContext) : (s.setContext c).hau.engine = s.hau.engine := rfl

@[simp] theorem State.mergeSlice_engine (c : ReContext) (u : SliceUnit) :
    (s.mergeSlice c u).hau.engine = s.hau.engine :=
  engine_ite (fun _ => rfl) fun _ => engine_ite (fun _ => rfl) fun _ =>
    engine_ite (fun _ => engine_ite (fun _ => by simp) fun _ => by simp) fun _ =>
    engine_ite (fun _ => rfl) fun _ => rfl

@[simp] theorem State.deferSlice_engine (u : SliceUnit) (reason : DeferReason) :
    (s.deferSlice u reason).hau.engine = s.hau.engine := engine_ite (fun _ => rfl) fun _ => by simp

@[simp] theorem State.newMessage_engine (u : SliceUnit) : (s.newMessage u).hau.engine = s.hau.engine := by
  unfold newMessage
  split
  · exact deferSlice_engine s u _
  · exact engine_ite (fun _ => mergeSlice_engine _ _ u) fun _ => deferSlice_engine s u _

@[simp] theorem State.sliceForContext_engine (c : ReContext) (u : SliceUnit) :
    (s.sliceForContext c u).hau.engine = s.hau.engine := by
  unfold sliceForContext
  split <;> simp

@[simp] theorem State.behindWindow_engine (u : SliceUnit) : (s.behindWindow u).hau.engine = s.hau.engine := by
  unfold behindWindow
  split
  · simp
  · simp
  · rfl

@[simp] theorem State.sliceOnOpen_engine (u : SliceUnit) : (s.sliceOnOpen u).hau.engine = s.hau.engine := by
  refine engine_ite (fun _ => engine_ite (fun _ => ?_) fun _ =>
    engine_ite (fun _ => behindWindow_engine s u) fun _ => rfl) fun _ => rfl
  split <;> simp

@[simp] theorem State.sliceArrives_engine (u : SliceUnit) : (s.sliceArrives u).hau.engine = s.hau.engine := by
  refine engine_ite (fun _ => ?_) fun _ => rfl
  split <;> simp

@[simp] theorem State.writeDeparted_engine (c : ReContext) : (s.writeDeparted c).hau.engine = s.hau.engine := by
  refine engine_ite (fun _ => ?_) fun _ => rfl
  split <;> simp

/-! The write queue and the grants. -/

@[simp] theorem State.dataWriteDeparts_engine : s.dataWriteDeparts.hau.engine = s.hau.engine := by
  unfold dataWriteDeparts
  split
  · dsimp only
    split
    · rfl
    · exact writeDeparted_engine _ _
  · rfl

@[simp] theorem State.recordWriteDeparts_engine : s.recordWriteDeparts.hau.engine = s.hau.engine := by
  unfold recordWriteDeparts
  split <;> rfl

@[simp] theorem State.backlogMove_engine : s.backlogMove.hau.engine = s.hau.engine := by
  unfold backlogMove
  split
  · rfl
  · exact engine_ite (fun _ => rfl) fun _ => rfl

@[simp] theorem State.interruptMessage_engine (msi : Bool) : (s.interruptMessage msi).hau.engine = s.hau.engine :=
  engine_ite (fun _ => engine_ite (fun _ => rfl) fun _ => rfl) fun _ => rfl

@[simp] theorem State.streamEventGrant_engine : s.streamEventGrant.hau.engine = s.hau.engine := by
  refine engine_ite (fun _ => ?_) fun _ => rfl
  split
  · rfl
  · split
    · rfl
    · exact postRecord_engine s _

@[simp] theorem State.releaseListGrant_engine : s.releaseListGrant.hau.engine = s.hau.engine := by
  refine engine_ite (fun _ => ?_) fun _ => rfl
  split
  · rfl
  · split
    · rfl
    · exact (closeIfReleased_engine _ _).trans (postRecord_engine s _)

/-! Reads and requests. -/

@[simp] theorem State.grantReservation_engine : s.grantReservation.hau.engine = s.hau.engine :=
  engine_ite (fun _ => rfl) fun _ => rfl

@[simp] theorem State.sliceReadIssue_engine : s.sliceReadIssue.hau.engine = s.hau.engine := by
  refine engine_ite (fun _ => ?_) fun _ => rfl
  split
  · rfl
  · split
    · rfl
    · split <;> rfl

@[simp] theorem State.fillWaiting_engine (k : SlotId) (o n : Nat) (data : List Byte) :
    (s.fillWaiting k o n data).hau.engine = s.hau.engine := by
  refine engine_ite (fun _ => rfl) fun _ => ?_
  split
  · rfl
  · exact engine_ite (fun _ => rfl) fun _ => rfl

@[simp] theorem State.receiveSliceData_engine (id : Nat) (data : List Byte) :
    (s.receiveSliceData id data).hau.engine = s.hau.engine := by
  unfold receiveSliceData
  split
  · rfl
  · split
    · rfl
    · exact engine_ite (fun _ => fillWaiting_engine _ _ _ _ _) fun _ => rfl

@[simp] theorem State.completeRecordRead_engine (r : RequestRecord) :
    (s.completeRecordRead r).hau.engine = s.hau.engine := by
  unfold completeRecordRead
  split
  · rfl
  · refine engine_ite (fun _ => rfl) fun _ => ?_
    split
    · exact (RequestKept.processRecord r _).engine
    · rfl
    · rfl

@[simp] theorem State.receiveRecordData_engine (data : List Byte) :
    (s.receiveRecordData data).hau.engine = s.hau.engine := by
  unfold receiveRecordData
  split
  · rfl
  · exact engine_ite (fun _ => completeRecordRead_engine s _) fun _ => rfl

/-! The register window but for CONTROL. -/

@[simp] theorem State.writeRqRing_engine (v : BitVec 64) : (s.writeRqRing v).hau.engine = s.hau.engine :=
  engine_ite (fun _ => rfl) fun _ => rfl

@[simp] theorem State.writeCqRing_engine (v : BitVec 64) : (s.writeCqRing v).hau.engine = s.hau.engine :=
  engine_ite (fun _ => judgeInterrupt_engine _ _) fun _ => rfl

@[simp] theorem State.writeCqHead_engine (v : BitVec 32) : (s.writeCqHead v).hau.engine = s.hau.engine :=
  engine_ite (fun _ => judgeInterrupt_engine _ _) fun _ => rfl

theorem State.writeRegister_engine {offset size : Nat} (h : ¬(offset = 0x04 ∧ size = 4)) (v : BitVec 64) :
    (s.writeRegister offset size v).hau.engine = s.hau.engine := by
  have rq (v : BitVec 64) := s.writeRqRing_engine v
  have cq (v : BitVec 64) := s.writeCqRing_engine v
  have head (v : BitVec 32) := s.writeCqHead_engine v
  refine engine_ite (fun hsize => engine_ite (fun ho => absurd ⟨ho, hsize⟩ h) fun _ => ?_) fun _ =>
    engine_ite (fun _ => ?_) fun _ => rfl
  · exact engine_ite (fun _ => rq _) fun _ => engine_ite (fun _ => rq _) fun _ => engine_ite (fun _ => cq _) fun _ =>
      engine_ite (fun _ => cq _) fun _ => engine_ite (fun _ => rfl) fun _ => engine_ite (fun _ => head _) fun _ => rfl
  · exact engine_ite (fun _ => rq _) fun _ => engine_ite (fun _ => cq _) fun _ => rfl

end

/-! ### What moves the engine state -/

/-- A write to CONTROL with RESET 0 and this ENABLE, by whichever command (R175, R178). -/
def Controls (enable : Bool) (c : Instr) : Prop :=
  (∃ ie, c = .intEnableWrite enable ie) ∨ (∃ ie, c = if enable then .enableSet ie else .enableClear ie) ∨
    ∃ v, v.getLsbD 1 = false ∧ v.getLsbD 0 = enable ∧ c = .registerWrite 0x04 4 v

theorem exec_controls {enable : Bool} {c : Instr} (h : Controls enable c) (s : State) :
    ∃ ie, exec c s = .next (s.writeControl enable ie) := by
  obtain ⟨ie, rfl⟩ | ⟨ie, rfl⟩ | ⟨v, hreset, rfl, rfl⟩ := h
  · exact ⟨ie, rfl⟩
  · cases enable <;> exact ⟨ie, rfl⟩
  · have hw : s.writeControlWord v = s.writeControl (v.getLsbD 0) (v.getLsbD 2) :=
      if_neg (Bool.eq_false_iff.mp hreset)
    exact ⟨v.getLsbD 2, congrArg Host.Outcome.next hw⟩

/-- ENABLE moves the engine between STOPPED and RUNNING (R175, R178). -/
theorem State.writeControl_engine (enable ie : Bool) (s : State) : (s.writeControl enable ie).hau.engine =
    if s.hau.engine = .stopped ∧ enable = true then .running
    else if s.hau.engine = .running ∧ enable = false then .stopped else s.hau.engine := by
  rw [writeControl, judgeInterrupt_engine, writeEnable_eq]

/-- From `s` to `t` the engine has halted on the failure of this read (R181, R185). -/
structure HaltsOn (r : ReadEntry) (s t : State) : Prop where
  before : s.hau.engine ≠ .halted
  after : t.hau.engine = .halted
  address : t.hau.faultAddress = r.address

theorem HaltsOn.halt {cause : HaltCause} {r : ReadEntry} {s u : State} (h : s.hau.engine ≠ .halted) :
    HaltsOn r s (u.halt cause r.address) := by
  obtain ⟨o, ho⟩ := u.halt_eq cause r.address
  rw [ho]
  exact ⟨h, rfl, rfl⟩

/-- An error of an outstanding read halts the engine (R181, R185). -/
theorem State.readErrors_halts {s : State} {id : Nat} (hne : (s.readErrors id).hau.engine ≠ s.hau.engine) :
    ∃ r, s.readOf id = some r ∧ HaltsOn r s (s.readErrors id) := by
  revert hne
  unfold readErrors
  split
  · exact fun hne => absurd rfl hne
  · next hh =>
    split
    · exact fun hne => absurd rfl hne
    · next r hr => exact fun _ => ⟨r, hr, .halt (by simpa [isHalted] using hh)⟩

/-- The end of an outstanding read's time halts the engine (R181, R185). -/
theorem State.readTimesOut_halts {s : State} {id : Nat} (hne : (s.readTimesOut id).hau.engine ≠ s.hau.engine) :
    ∃ r, s.readOf id = some r ∧ r.timer.isRunning = true ∧ HaltsOn r s (s.readTimesOut id) := by
  revert hne
  unfold readTimesOut
  split
  · exact fun hne => absurd rfl hne
  · next hh =>
    split
    · exact fun hne => absurd rfl hne
    · next r hr =>
      split
      · next hrun => exact fun _ => ⟨r, hr, hrun, .halt (by simpa [isHalted] using hh)⟩
      · exact fun hne => absurd rfl hne

/-- No command but a reset, a write to CONTROL and the failure of a read touches the engine state. -/
theorem exec_engine {c : Instr} (s : State) (hr : ¬IsReset c) (hc : ∀ enable, ¬Controls enable c)
    (hf : ¬ReadFails c) : ∃ t, exec c s = .next t ∧ t.hau.engine = s.hau.engine := by
  cases c with
  | portReset => exact absurd (.inl rfl) hr
  | softReset => exact absurd (.inr (.inl rfl)) hr
  | enableSet ie => exact absurd (.inr (.inl ⟨ie, rfl⟩)) (hc true)
  | enableClear ie => exact absurd (.inr (.inl ⟨ie, rfl⟩)) (hc false)
  | intEnableWrite e ie => exact absurd (.inl ⟨ie, rfl⟩) (hc e)
  | rqRingWrite v => exact ⟨_, rfl, s.writeRqRing_engine v⟩
  | cqRingWrite v => exact ⟨_, rfl, s.writeCqRing_engine v⟩
  | rqTailWrite v => exact ⟨_, rfl, rfl⟩
  | cqHeadWrite v => exact ⟨_, rfl, s.writeCqHead_engine v⟩
  | registerWrite offset size v =>
    refine ⟨_, rfl, s.writeRegister_engine (fun ⟨ho, hs⟩ => ?_) v⟩
    subst ho hs
    cases hreset : v.getLsbD 1 with
    | true => exact hr (.inr (.inr ⟨v, hreset, rfl⟩))
    | false => exact hc _ (.inr (.inr ⟨v, hreset, rfl, rfl⟩))
  | configure => exact ⟨_, rfl, s.completeRecordRead_engine _⟩
  | openStream => exact ⟨_, rfl, s.completeRecordRead_engine _⟩
  | closeStream => exact ⟨_, rfl, s.completeRecordRead_engine _⟩
  | send => exact ⟨_, rfl, s.completeRecordRead_engine _⟩
  | post => exact ⟨_, rfl, s.completeRecordRead_engine _⟩
  | fence => exact ⟨_, rfl, s.completeRecordRead_engine _⟩
  | queryStream => exact ⟨_, rfl, s.completeRecordRead_engine _⟩
  | queryLink => exact ⟨_, rfl, s.completeRecordRead_engine _⟩
  | reservationGrant => exact ⟨_, rfl, State.engine_ite (fun _ => s.grantReservation_engine) fun _ => rfl⟩
  | recordReadIssue => exact ⟨_, rfl, State.engine_ite (fun _ => rfl) fun _ => rfl⟩
  | recordReadComplete data => exact ⟨_, rfl, s.receiveRecordData_engine data⟩
  | sliceReadIssue => exact ⟨_, rfl, s.sliceReadIssue_engine⟩
  | sliceReadReturn id data => exact ⟨_, rfl, s.receiveSliceData_engine id data⟩
  | readError id => exact absurd ⟨id, .inl rfl⟩ hf
  | readTimeout id => exact absurd ⟨id, .inr rfl⟩ hf
  | forgottenReadReturn id => exact ⟨_, rfl, rfl⟩
  | forgottenReadExpiry id => exact ⟨_, rfl, rfl⟩
  | slicerSlotFill => exact ⟨_, rfl, s.slotFill_engine⟩
  | unitPlacement => exact ⟨_, rfl, s.placement_engine⟩
  | laneUnitTransmit l => exact ⟨_, rfl, s.transmit_engine l⟩
  | alignReceived l role epoch ready =>
    exact ⟨_, rfl, State.engine_ite (fun _ => s.hearBad_engine l) fun _ => s.hearAlign_engine l role epoch ready⟩
  | badUnitReceived l => exact ⟨_, rfl, s.hearBad_engine l⟩
  | idleReceived l => exact ⟨_, rfl, s.hearUnit_engine l fun _ => rfl⟩
  | silenceTimerExpiry l => exact ⟨_, rfl, s.silence_engine l⟩
  | sliceReceived l => exact ⟨_, rfl, s.hearUnit_engine l fun u => u.sliceArrives_engine _⟩
  | syncReceived l i g => exact ⟨_, rfl, s.hearUnit_engine l fun u => u.syncArrives_engine i g⟩
  | syncAckReceived l i g => exact ⟨_, rfl, s.hearUnit_engine l fun u => u.syncAckArrives_engine i g⟩
  | syncTimerExpiry i => exact ⟨_, rfl, s.syncExpiry_engine i⟩
  | ackReceived l i g m => exact ⟨_, rfl, s.hearUnit_engine l fun u => u.applyOutcome_engine i g m _⟩
  | deferReceived l i g m a reason => exact ⟨_, rfl, s.hearUnit_engine l fun u => u.applyDefer_engine i g m a⟩
  | rejectTooLongReceived l i g m => exact ⟨_, rfl, s.hearUnit_engine l fun u => u.applyOutcome_engine i g m _⟩
  | rejectNotOpenReceived l i g m => exact ⟨_, rfl, s.hearUnit_engine l fun u => u.applyNotOpen_engine i g m⟩
  | ackTimerExpiry i m => exact ⟨_, rfl, s.ackExpiry_engine i m⟩
  | holdoffTimerExpiry i m => exact ⟨_, rfl, s.holdoffExpiry_engine i m⟩
  | dataWriteDeparts => exact ⟨_, rfl, s.dataWriteDeparts_engine⟩
  | recordWriteDeparts => exact ⟨_, rfl, s.recordWriteDeparts_engine⟩
  | backlogMove => exact ⟨_, rfl, s.backlogMove_engine⟩
  | interruptMessage msi => exact ⟨_, rfl, s.interruptMessage_engine msi⟩
  | linkEventGrant => exact ⟨_, rfl, State.engine_ite (fun _ => s.postRecord_engine _) fun _ => rfl⟩
  | streamEventGrant => exact ⟨_, rfl, s.streamEventGrant_engine⟩
  | releaseListGrant => exact ⟨_, rfl, s.releaseListGrant_engine⟩

/-- Settles O58: a command is a reset, a write to CONTROL (`writeControl_engine`), the failure of a read, which halts on
it, or one that leaves the engine state alone (`exec_engine`). -/
theorem engineMovesAsTold : Obligations.EngineMovesAsTold := by
  intro c s t h hne controls
  by_cases hr : IsReset c
  · obtain ⟨rq, cq, hx⟩ := exec_isReset hr s
    obtain rfl := Host.Outcome.next.inj (hx.symm.trans h)
    exact .inl ⟨rfl, hr⟩
  by_cases hc : ∃ enable, Controls enable c
  · obtain ⟨enable, hc⟩ := hc
    obtain ⟨ie, hx⟩ := exec_controls hc s
    obtain rfl := Host.Outcome.next.inj (hx.symm.trans h)
    rw [State.writeControl_engine] at hne ⊢
    split at hne
    · next hstart =>
      obtain ⟨hs, rfl⟩ := hstart
      exact .inr (.inl ⟨hs, if_pos ⟨hs, rfl⟩, hc⟩)
    · split at hne
      · next hstop =>
        obtain ⟨hs, rfl⟩ := hstop
        exact .inr (.inr (.inl ⟨hs, by simp [hs], hc⟩))
      · exact absurd rfl hne
  by_cases hf : ReadFails c
  · obtain ⟨id, rfl | rfl⟩ := hf
    · obtain rfl := Host.Outcome.next.inj h
      obtain ⟨r, hr, hbefore, hafter, haddress⟩ := State.readErrors_halts hne
      exact .inr (.inr (.inr ⟨hbefore, hafter, id, r, hr, .inl rfl, haddress⟩))
    · obtain rfl := Host.Outcome.next.inj h
      obtain ⟨r, hr, hrun, hbefore, hafter, haddress⟩ := State.readTimesOut_halts hne
      exact .inr (.inr (.inr ⟨hbefore, hafter, id, r, hr, .inr ⟨rfl, hrun⟩, haddress⟩))
  · obtain ⟨u, hx, hu⟩ := exec_engine s hr (fun enable he => hc ⟨enable, he⟩) hf
    obtain rfl := Host.Outcome.next.inj (hx.symm.trans h)
    exact absurd hu hne

end Sys2Proof.Machine

namespace Sys2Proof.Machine

set_option Elab.async false -- one thread for each lemma would need more memory than the check allows

/-! ### Write accesses of the register window -/

/-- The upper half of a ring register stays where its low half is written (R173). -/
theorem Ring.withLow_eq (r : Ring) (v : BitVec 64) : r.withLow v = r.word.extractLsb' 32 32 ++ v.extractLsb' 0 32 := by
  refine BitVec.eq_of_getLsbD_eq fun i hi => ?_
  rw [BitVec.getLsbD_append]
  by_cases h : i < 32
  · simp [withLow, h, hi]
  · have hhigh : i - 32 < 32 := by omega
    simp [withLow, h, hi, hhigh]

/-- The lower half of a ring register stays where its high half is written (R173). -/
theorem Ring.withHigh_eq (r : Ring) (v : BitVec 64) :
    r.withHigh v = v.extractLsb' 0 32 ++ r.word.extractLsb' 0 32 := by
  ext i hi
  rw [BitVec.getElem_append]
  by_cases h : i < 32
  · simp [withHigh, h]
  · simp [withHigh, h]
    rfl

/-- An access that meets no register that can be written is ignored (R173, R177). -/
theorem State.writeRegister_other {offset size : Nat} (h : (offset, size) ∉ [(0x04, 4), (0x10, 4), (0x14, 4), (0x18, 4),
    (0x1C, 4), (0x20, 4), (0x28, 4), (0x10, 8), (0x18, 8)]) (v : BitVec 64) (s : State) :
    s.writeRegister offset size v = s := by
  unfold writeRegister
  split
  · next hsize =>
    subst hsize
    have hne : offset ≠ 0x04 ∧ offset ≠ 0x10 ∧ offset ≠ 0x14 ∧ offset ≠ 0x18 ∧ offset ≠ 0x1C ∧ offset ≠ 0x20 ∧
        offset ≠ 0x28 := by simpa using h
    simp only [hne, if_false]
  · split
    · next hsize =>
      subst hsize
      have hne : offset ≠ 0x10 ∧ offset ≠ 0x18 := by simpa using h
      simp only [hne, if_false]
    · rfl

/-- Settles O8: each register's access is its write by definition, a half of a ring register that of the whole value
(`Ring.withLow_eq`, `Ring.withHigh_eq`); no other access writes. -/
theorem registerWriteActs : Obligations.RegisterWriteActs := by
  intro v s
  have low (r : Ring) := r.withLow_eq v
  have high (r : Ring) := r.withHigh_eq v
  refine ⟨?_, rfl, ?_, rfl, rfl, ?_, ?_, ?_, ?_, fun offset size h => ?_⟩
  · have hx : exec (.registerWrite 0x20 4 v) s = .next (s.writeRqTail (v.setWidth 32)) := rfl
    rw [hx, State.writeRqTail, BitVec.toNat_setWidth]
    rfl
  · cases h : v.getLsbD 1 with
    | false => exact congrArg Host.Outcome.next (if_neg (Bool.eq_false_iff.mp h))
    | true => exact congrArg Host.Outcome.next (if_pos h)
  · rw [← low]; rfl
  · rw [← high]; rfl
  · rw [← low]; rfl
  · rw [← high]; rfl
  · exact congrArg Host.Outcome.next (State.writeRegister_other h v s)

/-! ### Forgotten reads -/

/-- Settles O23: both commands are `State.releaseIdentifier`. -/
theorem forgottenReadsAreDiscarded : Obligations.ForgottenReadsAreDiscarded :=
  fun _ _ => ⟨rfl, rfl⟩

end Sys2Proof.Machine

namespace Sys2Proof.Machine

set_option Elab.async false -- one thread for each lemma would need more memory than the check allows

/-! ### What the registers read -/

/-- Fields side by side spell a number: the upper ones count the size of the lower (R196). -/
theorem toNat_append_eq_add {m n : Nat} (x : BitVec m) (y : BitVec n) :
    (x ++ y).toNat = x.toNat * 2 ^ n + y.toNat := by
  rw [BitVec.toNat_append, ← Nat.shiftLeft_add_eq_or_of_lt y.isLt, Nat.shiftLeft_eq]

theorem Ring.word_toNat (r : Ring) : r.word.toNat = 4096 * r.base.toNat + r.order.toNat := by
  rw [word, toNat_append_eq_add, toNat_append_eq_add, BitVec.toNat_ofNat]
  omega

/-- A number a register holds, widened to the 64 bits of an access. -/
theorem setWidth_eq_ofNat {w n : Nat} {x : BitVec w} (h : x.toNat = n) : x.setWidth 64 = BitVec.ofNat 64 n :=
  (BitVec.ofNat_toNat 64 x).symm.trans (congrArg _ h)

/-- The low half of a 64-bit register (R173, R196). -/
theorem lowHalf_eq (v : BitVec 64) : (v.setWidth 32).setWidth 64 = BitVec.ofNat 64 (v.toNat % 2 ^ 32) :=
  setWidth_eq_ofNat (BitVec.toNat_setWidth 32 v)

/-- The high half of a 64-bit register (R173, R196). -/
theorem highHalf_eq (v : BitVec 64) : v >>> 32 = BitVec.ofNat 64 (v.toNat / 2 ^ 32) := by
  have hhigh : (v >>> 32).toNat = v.toNat / 2 ^ 32 := by rw [BitVec.toNat_ushiftRight, Nat.shiftRight_eq_div_pow]
  rw [← setWidth_eq_ofNat hhigh, BitVec.setWidth_eq]

theorem toNat_ofBool_eq_ite (b : Bool) : (BitVec.ofBool b).toNat = if b then 1 else 0 := by cases b <;> rfl

theorem State.controlWord_toNat (s : State) : s.controlWord.toNat =
    (if s.hau.enable then 1 else 0) + 4 * if s.hau.intEnable then 1 else 0 := by
  unfold controlWord
  cases s.hau.enable <;> cases s.hau.intEnable <;> rfl

/-- The bits of four lanes as a mask, and as they stand in STATUS (R196). -/
theorem laneBits_shifted : ∀ up : LaneId → Bool,
    256 * (BitVec.ofNat 4 ((List.finRange 4).map fun l => if up l = true then 2 ^ l.val else 0).sum).toNat =
      ((List.finRange 4).map fun l => (if up l then 1 else 0) * 2 ^ (8 + l.val)).sum := by
  decide

theorem State.statusWord_toNat (s : State) : s.statusWord.toNat =
    s.hau.engine.code.toNat + 4 * s.hau.haltCause.code.toNat + 16 * (if s.rp.config.configured then 1 else 0) +
      32 * (if decide (s.lm.linkState = .up) then 1 else 0) +
      ((List.finRange 4).map fun l => (if decide ((s.lane l).state = .up) then 1 else 0) * 2 ^ (8 + l.val)).sum := by
  have hlanes := laneBits_shifted fun l => decide ((s.lane l).state = .up)
  have hmask : s.lanesUp = BitVec.ofNat 4 ((List.finRange 4).map fun l =>
      if decide ((s.lane l).state = .up) = true then 2 ^ l.val else 0).sum := by simp only [decide_eq_true_eq]; rfl
  have hengine := s.hau.engine.code.isLt
  have hcause := s.hau.haltCause.code.isLt
  have hfour := s.lanesUp.isLt
  rw [← hlanes, ← hmask]
  simp only [statusWord, BitVec.toNat_setWidth, toNat_append_eq_add, toNat_ofBool_eq_ite, BitVec.toNat_ofNat]
  split <;> split <;> omega

/-- CQ_HEAD, counted back from the tail (R156, R177). -/
theorem State.cqHead_eq_emod (s : State) :
    s.cqHead = (((s.cp.tail : Int) - s.cp.unconsumed) % 2 ^ s.hau.cqRing.order.toNat).toNat := by
  have hsize : 0 < s.cqSize := Nat.two_pow_pos _
  have hlt : s.cqHead < s.cqSize := Nat.mod_lt _ hsize
  have hmod : (s.cqHead : Int) + s.cp.unconsumed ≡ s.cp.tail [ZMOD s.cqSize] :=
    Int.natCast_modEq_iff.mpr (head_add_used s.cp.tail s.cp.unconsumed hsize)
  have hpow : (2 : Int) ^ s.hau.cqRing.order.toNat = s.cqSize := by simp [cqSize, Ring.size]
  have hback : ((s.cp.tail : Int) - s.cp.unconsumed) % s.cqSize = s.cqHead := by
    have := (hmod.symm.sub_right (s.cp.unconsumed : Int))
    rw [add_sub_cancel_right] at this
    exact this.eq.trans (Int.emod_eq_of_lt (by positivity) (by exact_mod_cast hlt))
  rw [hpow, hback, Int.toNat_natCast]

/-- An access that meets no register reads 0 (R173). -/
theorem State.readRegister_other {offset size : Nat} (h : (offset, size) ∉ [(0x00, 4), (0x04, 4), (0x08, 4), (0x10, 4),
    (0x14, 4), (0x18, 4), (0x1C, 4), (0x20, 4), (0x24, 4), (0x28, 4), (0x30, 4), (0x34, 4), (0x10, 8), (0x18, 8),
    (0x30, 8)]) (s : State) : s.readRegister offset size = 0 := by
  by_cases hword : size = 4
  · subst hword
    obtain ⟨h00, h04, h08, h10, h14, h18, h1C, h20, h24, h28, h30, h34⟩ : offset ≠ 0x00 ∧ offset ≠ 0x04 ∧
        offset ≠ 0x08 ∧ offset ≠ 0x10 ∧ offset ≠ 0x14 ∧ offset ≠ 0x18 ∧ offset ≠ 0x1C ∧ offset ≠ 0x20 ∧
        offset ≠ 0x24 ∧ offset ≠ 0x28 ∧ offset ≠ 0x30 ∧ offset ≠ 0x34 := by simpa using h
    rw [readRegister, if_pos rfl, if_neg h00, if_neg h04, if_neg h08, if_neg h10, if_neg h14, if_neg h18, if_neg h1C,
      if_neg h20, if_neg h24, if_neg h28, if_neg h30, if_neg h34]
  rw [readRegister, if_neg hword]
  by_cases hlong : size = 8
  · subst hlong
    obtain ⟨h10, h18, h30⟩ : offset ≠ 0x10 ∧ offset ≠ 0x18 ∧ offset ≠ 0x30 := by simpa using h
    rw [if_pos rfl, if_neg h10, if_neg h18, if_neg h30]
  · rw [if_neg hlong]

/-! ### Power-on

The part right after power-on is by definition as a port reset of that same state leaves it (R179). -/

section
variable (i : StreamId)
theorem State.reset_stream : State.reset.stream i = StreamRecord.reset := resetWith_stream Ring.reset Ring.reset reset i
theorem State.reset_txs : State.reset.txs i = TxStream.reset := resetWith_txs Ring.reset Ring.reset reset i
theorem State.reset_rxs : State.reset.rxs i = RxStream.reset := resetWith_rxs Ring.reset Ring.reset reset i
theorem State.reset_lane (l : LaneId) : State.reset.lane l = Lane.reset := resetWith_lane Ring.reset Ring.reset reset l
theorem State.reset_slot (k : SlotId) : State.reset.slot k = none := resetWith_slot Ring.reset Ring.reset reset k
end

theorem State.reset_linkLawful : State.reset.LinkLawful := resetWith_linkLawful Ring.reset Ring.reset State.reset

theorem State.reset_queuesBounded : QueuesBounded State.reset :=
  ⟨Nat.zero_le _, Nat.zero_le _, Nat.zero_le _, fun l => by simp [reset_lane, Lane.reset], Nat.zero_le _, Nat.zero_le _⟩

theorem State.reset_listsBounded : ListsBounded State.reset := by
  refine ⟨fun i => ?_, ?_, ?_⟩
  · simp [reset_txs, reset_rxs, TxStream.reset, RxStream.reset]
  · simp [sendEntries, State.reset, TransmitEngine.reset, TxStream.reset]
  · simp [buffersInUse, State.reset, ReceiveEngine.reset, RxStream.reset]

theorem State.reset_slotsAccounted : SlotsAccounted State.reset := by
  have account : Ledger 0 State.reset := .reset Ring.reset Ring.reset State.reset
  exact ⟨account.reserved, account.fits, fun i => by rw [reset_stream]; rfl⟩

theorem State.reset_haltedQuiet : HaltedQuiet State.reset := nofun

theorem State.reset_contextsInWindow : ContextsInWindow State.reset := ⟨nofun, .nil⟩

theorem State.reset_transmitListsLawful : TransmitListsLawful State.reset := by
  refine (transmitListsLawful_iff _).mpr fun i => .of_empty (congrArg TxStream.list (reset_txs i)) fun k => ?_
  exact congrArg (fun o => o.bind (SlotWork.msnOn i)) (reset_slot k)

theorem State.reset_endedIsEmpty : EndedIsEmpty State.reset := by
  intro i
  simp [reset_stream, reset_txs, reset_rxs, StreamRecord.reset, TxStream.reset, RxStream.reset]

theorem State.reset_streamRecordsLawful : StreamRecordsLawful State.reset := by
  intro i
  rw [reset_stream]
  exact ⟨rfl, rfl, fun h => absurd rfl h, Nat.zero_le _⟩

theorem State.reset_entryTimersLawful : EntryTimersLawful State.reset := by
  intro i
  rw [reset_txs]
  nofun

theorem State.reset_fencesAwait : FencesAwait State.reset := nofun

/-- Settles O4: each register by the number its fields spell, and the invariants one by one. -/
theorem powerOnState : Obligations.PowerOnState := by
  refine ⟨fun s => ?_, ⟨rfl, rfl, rfl, rfl, rfl, rfl, rfl, rfl, rfl⟩, State.reset_linkLawful.link,
    State.reset_linkLawful.lanes, State.reset_queuesBounded, State.reset_listsBounded, State.reset_slotsAccounted,
    (State.resetWith_working Ring.reset Ring.reset State.reset).agrees, State.reset_haltedQuiet,
    State.reset_contextsInWindow, State.reset_transmitListsLawful, State.reset_endedIsEmpty,
    State.reset_streamRecordsLawful, State.reset_entryTimersLawful, State.reset_fencesAwait⟩
  intro bit word engine cause lanes ring
  have hengine : s.hau.engine.code.toNat = engine := by
    dsimp only [engine]
    cases s.hau.engine <;> rfl
  have hcause : s.hau.haltCause.code.toNat = cause := by
    dsimp only [cause]
    cases s.hau.haltCause <;> rfl
  have hstatus := s.statusWord_toNat
  rw [hengine, hcause] at hstatus
  have whole (r : Ring) : r.word = word (4096 * r.base.toNat + r.order.toNat) := by
    rw [← BitVec.setWidth_eq r.word]
    exact setWidth_eq_ofNat r.word_toNat
  have low (r : Ring) : (r.word.setWidth 32).setWidth 64 = word ((4096 * r.base.toNat + r.order.toNat) % 2 ^ 32) := by
    rw [lowHalf_eq, r.word_toNat]
  have high (r : Ring) : r.word >>> 32 = word ((4096 * r.base.toNat + r.order.toNat) / 2 ^ 32) := by
    rw [highHalf_eq, r.word_toNat]
  exact ⟨rfl, setWidth_eq_ofNat s.controlWord_toNat, setWidth_eq_ofNat hstatus,
    ⟨whole _, low _, high _⟩, ⟨whole _, low _, high _⟩, rfl, rfl,
    congrArg word s.cqHead_eq_emod, rfl, lowHalf_eq _, highHalf_eq _, fun offset size h => State.readRegister_other h s⟩

end Sys2Proof.Machine

namespace Sys2Proof.Machine

set_option Elab.async false -- one thread for each lemma would need more memory than the check allows

/-! ### The bytes of a record, read back -/

theorem leNat_leBytes (n v : Nat) : leNat (leBytes n v) = v % 256 ^ n := by
  induction n generalizing v with
  | zero => exact (Nat.mod_one v).symm
  | succ n ih =>
    have hbyte : (BitVec.ofNat 8 v).toNat = v % 256 := BitVec.toNat_ofNat ..
    rw [leBytes, leNat, ih, hbyte, pow_succ', Nat.mod_mul]

/-- A field of whole bytes reads back from its bytes (R193). -/
theorem ofNat_leNat_leBytes (n : Nat) (x : BitVec (8 * n)) : BitVec.ofNat (8 * n) (leNat (leBytes n x.toNat)) = x := by
  have hx : x.toNat < 256 ^ n := by simpa only [Nat.pow_mul] using x.isLt
  rw [leNat_leBytes, Nat.mod_eq_of_lt hx, BitVec.ofNat_toNat, BitVec.setWidth_eq]

/-- The kind whose own fields these are (R193). -/
def RequestBody.kind : RequestBody → Option RequestKind
  | .unknown => none
  | .configure _ _ _ _ _ _ _ => some .configure
  | .openStream => some .openStream
  | .closeStream _ => some .closeStream
  | .send _ _ => some .send
  | .post _ _ => some .post
  | .fence _ => some .fence
  | .queryStream _ => some .queryStream
  | .queryLink _ => some .queryLink

/-- CONFIGURE, SEND and POST have the longest fields of their own (R193). -/
theorem RequestBody.bytes_length_le (body : RequestBody) : body.bytes.length ≤ 10 := by
  cases body <;> simp [bytes, leBytes_length]

/-- The common fields take 8 bytes (R193). -/
theorem commonFields_length (kind stream : Byte) (tag : Tag) (own : List Byte) :
    ([kind, stream, 0, 0] ++ leBytes 4 tag.toNat ++ own).length = 8 + own.length := by
  rw [List.length_append, List.length_append, leBytes_length]
  rfl

theorem RequestRecord.bytes_eq (r : RequestRecord) : r.bytes = [r.kind, r.stream, 0, 0] ++ leBytes 4 r.tag.toNat ++
    r.body.bytes ++ List.replicate (56 - r.body.bytes.length) 0 := by
  have hroom : Config.requestBytes - (8 + r.body.bytes.length) = 56 - r.body.bytes.length := Nat.sub_add_eq 64 8 _
  rw [bytes, commonFields_length, hroom]

theorem RequestRecord.bytes_length (r : RequestRecord) : r.bytes.length = 64 := by
  have hbody := r.body.bytes_length_le
  simp only [bytes_eq, List.length_append, List.length_cons, List.length_nil, List.length_replicate, leBytes_length]
  omega

/-- Behind the fields of the kind there is nothing but zeros (R193). -/
theorem RequestRecord.bytes_drop (r : RequestRecord) :
    r.bytes.drop (8 + r.body.bytes.length) = List.replicate (56 - r.body.bytes.length) 0 := by
  rw [bytes_eq]
  exact List.drop_left' (commonFields_length ..)

/-- The fields of each kind read back from where the kind's layout has them (R193). The bytes of a field stand at a
fixed place, so that taking them out is a computation; only the number they spell needs `ofNat_leNat_leBytes`. -/
theorem bodyOf_bytes {r : RequestRecord} {kind : RequestKind} (hbody : r.body.kind = some kind)
    (hkind : r.kind = kind.code) : bodyOf r.bytes = r.body := by
  obtain ⟨code, stream, tag, body, restZero⟩ := r
  subst hkind
  cases body with
  | unknown => exact absurd hbody nofun
  | configure mask role epoch limit ack hold sync =>
    cases hbody
    have word (x : BitVec 16) : BitVec.ofNat 16 (leNat (leBytes 2 x.toNat)) = x := ofNat_leNat_leBytes 2 x
    calc bodyOf _ = .configure mask role epoch limit (BitVec.ofNat 16 (leNat (leBytes 2 ack.toNat)))
          (BitVec.ofNat 16 (leNat (leBytes 2 hold.toNat))) (BitVec.ofNat 16 (leNat (leBytes 2 sync.toNat))) :=
          bodyOf_configure rfl
      _ = .configure mask role epoch limit ack hold sync := by rw [word, word, word]
  | openStream =>
    cases hbody
    exact bodyOf_openStream rfl
  | closeStream mode =>
    cases hbody
    exact bodyOf_closeStream rfl
  | send a n =>
    cases hbody
    exact (bodyOf_send rfl).trans (congrArg₂ _ (ofNat_leNat_leBytes 8 a) (ofNat_leNat_leBytes 2 n))
  | post a n =>
    cases hbody
    exact (bodyOf_post rfl).trans (congrArg₂ _ (ofNat_leNat_leBytes 8 a) (ofNat_leNat_leBytes 2 n))
  | fence scope =>
    cases hbody
    exact bodyOf_fence rfl
  | queryStream clear =>
    cases hbody
    exact bodyOf_queryStream rfl
  | queryLink clear =>
    cases hbody
    exact bodyOf_queryLink rfl

/-- A record with nothing reserved in it is the one that its bytes spell (R193). -/
theorem recordOf_bytes {r : RequestRecord} {kind : RequestKind} (hbody : r.body.kind = some kind)
    (hkind : r.kind = kind.code) (hrest : r.restZero = true) : recordOf r.bytes = r := by
  have hread : bodyOf r.bytes = r.body := bodyOf_bytes hbody hkind
  have htag : BitVec.ofNat 32 (leNat (field r.bytes 4 4)) = r.tag := ofNat_leNat_leBytes 4 r.tag
  have hzeros : (r.bytes.drop (8 + r.body.bytes.length)).all (fun b => decide (b = 0)) = r.restZero := by
    rw [r.bytes_drop, hrest]
    simp
  rw [recordOf, hread, htag, hzeros]
  rfl

/-- The bytes of a whole record, in one part, complete the record read with it (R140, R193). -/
theorem exec_recordReadComplete_bytes {s : State} {q : ReadEntry} (h : s.recordRead = some q) (hr : q.received = [])
    (hl : q.length = 64) {r : RequestRecord} (hread : recordOf r.bytes = r) :
    exec (.recordReadComplete r.bytes) s = .next (s.completeRecordRead r) := by
  have hlength : r.bytes.length = q.length := r.bytes_length.trans hl.symm
  have hall : (q.receive r.bytes).received = r.bytes := by
    rw [ReadEntry.receive, hr]
    exact List.take_of_length_le hlength.le
  rw [exec_recordReadComplete_last h (by rw [hr]; exact hlength.ge), hall, hread]

/-- Settles O10: each kind's bytes complete the read with the record of the kind's own command. -/
theorem recordBytesAreRequests : Obligations.RecordBytesAreRequests := by
  intro s q h hr hl stream mode scope clear mask role epoch limit tag a n ack hold sync bytes
  have same {c : Instr} (kind : RequestKind) (stream : Byte) (body : RequestBody) (hbody : body.kind = some kind)
      (hx : exec c s = .next (s.completeRecordRead (cleanRecord kind stream tag body))) :
      exec (.recordReadComplete (bytes kind.code stream body.bytes)) s = exec c s := by
    have hlayout : (cleanRecord kind stream tag body).bytes = bytes kind.code stream body.bytes :=
      RequestRecord.bytes_eq _
    rw [← hlayout, hx]
    exact exec_recordReadComplete_bytes h hr hl (recordOf_bytes hbody rfl rfl)
  exact ⟨same .configure 0 (.configure mask role epoch limit ack hold sync) rfl rfl,
    same .openStream stream .openStream rfl rfl, same .closeStream stream (.closeStream mode) rfl rfl,
    same .send stream (.send a n) rfl rfl, same .post stream (.post a n) rfl rfl,
    same .fence stream (.fence scope) rfl rfl, same .queryStream stream (.queryStream clear) rfl rfl,
    same .queryLink 0 (.queryLink clear) rfl rfl⟩

end Sys2Proof.Machine

namespace Sys2Proof.Machine

set_option Elab.async false -- one thread for each lemma would need more memory than the check allows

/-! ### What leaves the queue and the pins alone

Most operations touch neither the commands that wait nor what has left the pins. Both together are `State.exterior`, and
each operation that leaves them alone says so by one equation. -/

/-- What of the state lies outside the part: the commands that wait and what has left the pins. -/
def State.exterior (s : State) : List Instr × List Emission := (s.pending, s.emitted)

theorem State.exterior_ite {p : Prop} [Decidable p] {x : List Instr × List Emission} {a b : State}
    (ha : p → a.exterior = x) (hb : ¬p → b.exterior = x) : (if p then a else b).exterior = x := by
  split
  · next h => exact ha h
  · next h => exact hb h

section
variable (s : State) (i : StreamId) (l : LaneId)

/-! The writing of one record. -/

@[simp] theorem State.setStream_exterior (r : StreamRecord) : (s.setStream i r).exterior = s.exterior := rfl
@[simp] theorem State.setTxs_exterior (t : TxStream) : (s.setTxs i t).exterior = s.exterior := rfl
@[simp] theorem State.setRxs_exterior (r : RxStream) : (s.setRxs i r).exterior = s.exterior := rfl
@[simp] theorem State.setState_exterior (x : StreamState) : (s.setState i x).exterior = s.exterior := rfl
@[simp] theorem State.setContext_exterior (c : ReContext) : (s.setContext c).exterior = s.exterior := rfl
@[simp] theorem State.countStray_exterior : (s.countStray i).exterior = s.exterior := rfl
@[simp] theorem State.recordEvent_exterior (k : EventKind) (g : Gen) : (s.recordEvent i k g).exterior = s.exterior :=
  rfl
@[simp] theorem State.resetSequences_exterior : (s.resetSequences i).exterior = s.exterior := rfl

/-! Postings, notices and retirement. -/

@[simp] theorem State.withPosted_exterior (cs : List Completion) : (s.withPosted cs).exterior = s.exterior := by
  simp [exterior]

@[simp] theorem State.produceNotice_exterior (n : Notice) : (s.produceNotice n).exterior = s.exterior := by
  simp [exterior]

@[simp] theorem State.judgeInterrupt_exterior (before : Bool) :
    (State.judgeInterrupt before s).exterior = s.exterior := by
  obtain ⟨o, ho⟩ := judgeInterrupt_eq before s
  rw [ho]
  rfl

@[simp] theorem State.postRecord_exterior (c : Completion) : (s.postRecord c).exterior = s.exterior :=
  judgeInterrupt_exterior _ _

@[simp] theorem State.postReserved_exterior (c : Completion) : (s.postReserved c).exterior = s.exterior :=
  postRecord_exterior _ c

@[simp] theorem State.postDone_exterior (kind : RequestKind) (tag : Tag) (x : Status) (b : DoneBody) :
    (s.postDone kind i tag x b).exterior = s.exterior := postReserved_exterior s _

@[simp] theorem State.retireAll_exterior (es : List SendEntry) : (s.retireAll i es).exterior = s.exterior := by
  obtain ⟨cs, ft, h⟩ := retireAll_posts i es s
  rw [h]
  exact withPosted_exterior _ cs

@[simp] theorem State.failList_exterior (cause : ListFailure) : (s.failList i cause).exterior = s.exterior :=
  retireAll_exterior _ i _

/-! The ends of streams and generations. -/

@[simp] theorem State.flush_exterior (reason : ReturnReason) : (s.flush i reason).exterior = s.exterior := rfl
@[simp] theorem State.releaseBuffers_exterior : (s.releaseBuffers i).exterior = s.exterior := rfl

@[simp] theorem State.closeIfReleased_exterior : (s.closeIfReleased i).exterior = s.exterior := by
  rw [closeIfReleased_eq]
  exact exterior_ite (fun _ => withPosted_exterior _ _) fun _ => rfl

@[simp] theorem State.enterReleasing_exterior (cause : ReleaseCause) :
    (s.enterReleasing i cause).exterior = s.exterior :=
  closeIfReleased_exterior _ i

@[simp] theorem State.endDrainIfEmpty_exterior : (s.endDrainIfEmpty i).exterior = s.exterior :=
  exterior_ite (fun _ => enterReleasing_exterior _ i _) fun _ => rfl

@[simp] theorem State.retire_exterior : (s.retire i).exterior = s.exterior :=
  exterior_ite (fun _ => rfl) fun _ => (endDrainIfEmpty_exterior _ i).trans (retireAll_exterior _ i _)

@[simp] theorem State.reportFault_exterior (f : FaultReport) : (s.reportFault i f).exterior = s.exterior := by
  unfold reportFault
  split <;> simp

@[simp] theorem State.sendSync_exterior : (s.sendSync i).exterior = s.exterior := by simp [sendSync]

@[simp] theorem State.restartStream_exterior : (s.restartStream i).exterior = s.exterior := by
  unfold restartStream
  split <;> simp

@[simp] theorem State.partnerRestart_exterior : s.partnerRestart.exterior = s.exterior :=
  List.foldlRecOn (motive := fun u => u.exterior = s.exterior) _ restartStream rfl
    fun u hu i _ => (u.restartStream_exterior i).trans hu

@[simp] theorem State.finishOpen_exterior (x : Status) : (s.finishOpen i x).exterior = s.exterior := by
  unfold finishOpen
  dsimp only
  split <;> simp

@[simp] theorem State.resync_exterior (g : Gen) : (s.resync i g).exterior = s.exterior := by simp [resync]

@[simp] theorem State.syncOpening_exterior (g : Gen) : (s.syncOpening i g).exterior = s.exterior := by
  refine exterior_ite (fun _ => produceNotice_exterior s _) fun _ => ?_
  split
  · simp [adopt]
  · exact sendSync_exterior s i

@[simp] theorem State.syncOpened_exterior (g : Gen) : (s.syncOpened i g).exterior = s.exterior :=
  exterior_ite (fun _ => produceNotice_exterior s _) fun _ => resync_exterior s i g

theorem State.syncArrives_exterior (g : Gen) : (s.syncArrives i g).exterior = s.exterior := by
  unfold syncArrives
  split <;> simp

theorem State.syncAckArrives_exterior (g : Gen) : (s.syncAckArrives i g).exterior = s.exterior :=
  exterior_ite (fun _ => finishOpen_exterior _ i _) fun _ => rfl

theorem State.syncExpiry_exterior : (s.syncExpiry i).exterior = s.exterior :=
  exterior_ite (fun _ => rfl) fun _ => exterior_ite (fun _ => sendSync_exterior s i) fun _ => rfl

/-! Send entries and slicer slots. -/

theorem State.applyOutcome_exterior (g : Gen) (m : Msn) (x : EntryState) :
    (s.applyOutcome i g m x).exterior = s.exterior := by
  unfold applyOutcome
  split
  · rfl
  · exact exterior_ite (fun _ => rfl) fun _ => retire_exterior _ i

theorem State.applyDefer_exterior (g : Gen) (m : Msn) (a : Attempt) : (s.applyDefer i g m a).exterior = s.exterior := by
  unfold applyDefer
  split
  · rfl
  · exact exterior_ite (fun _ => rfl) fun _ => rfl

theorem State.applyNotOpen_exterior (g : Gen) (m : Msn) : (s.applyNotOpen i g m).exterior = s.exterior :=
  exterior_ite (fun _ => reportFault_exterior s i _) fun _ => rfl

theorem State.ackTimeout_exterior (m : Msn) (e : SendEntry) : (s.ackTimeout i m e).exterior = s.exterior :=
  exterior_ite (fun _ => reportFault_exterior _ i _) fun _ => rfl

theorem State.ackExpiry_exterior (m : Msn) : (s.ackExpiry i m).exterior = s.exterior := by
  refine exterior_ite (fun _ => rfl) fun _ => ?_
  split
  · rfl
  · exact exterior_ite (fun _ => ackTimeout_exterior s i m _) fun _ => rfl

theorem State.holdoffExpiry_exterior (m : Msn) : (s.holdoffExpiry i m).exterior = s.exterior := by
  refine exterior_ite (fun _ => rfl) fun _ => ?_
  split
  · rfl
  · exact exterior_ite (fun _ => rfl) fun _ => rfl

theorem State.slotFill_exterior : s.slotFill.exterior = s.exterior := by
  refine exterior_ite (fun _ => ?_) fun _ => rfl
  split
  · split <;> rfl
  · rfl

theorem State.acceptSlice_exterior (k : SlotId) (w : SlotWork) (e : SendEntry) (data : List Byte) :
    (s.acceptSlice l k w e data).exterior = s.exterior := exterior_ite (fun _ => rfl) fun _ => rfl

theorem State.placement_exterior : s.placement.exterior = s.exterior := by
  refine exterior_ite (fun _ => rfl) fun _ => ?_
  split
  · rfl
  · split
    · rfl
    · split
      · rfl
      · split
        · rfl
        · split
          · exact acceptSlice_exterior s _ _ _ _ _
          · rfl

/-! Lanes and the link. -/

theorem State.transmitLinkUp_exterior : s.transmitLinkUp.exterior = s.exterior :=
  exterior_ite (fun _ => rfl) fun _ => rfl

@[simp] theorem State.judgeLink_exterior : s.judgeLink.exterior = s.exterior := by
  obtain ⟨te, link, notices, event, heq⟩ := s.judgeLink_eq
  rw [heq]
  rfl

@[simp] theorem State.seekLane_exterior : (s.seekLane l).exterior = s.exterior := judgeLink_exterior _

theorem State.hearBad_exterior : (s.hearBad l).exterior = s.exterior := by
  refine exterior_ite (fun _ => rfl) fun _ => ?_
  dsimp only
  split
  · rfl
  · rfl
  · exact exterior_ite (fun _ => seekLane_exterior _ l) fun _ => rfl

theorem State.silence_exterior : (s.silence l).exterior = s.exterior :=
  exterior_ite (fun _ => rfl) fun _ => exterior_ite (fun _ => seekLane_exterior s l) fun _ => rfl

/-- A good unit whose handling, on an UP lane, leaves the queue and the pins alone (R113). -/
theorem State.hearUnit_exterior {act : State → State} (ha : ∀ u : State, (act u).exterior = u.exterior) :
    (s.hearUnit l act).exterior = s.exterior := by
  refine exterior_ite (fun _ => rfl) fun _ => ?_
  split
  · rfl
  · rfl
  · exact seekLane_exterior s l
  · exact ha _

theorem State.restartOn_exterior (epoch : Byte) : (s.restartOn l epoch).exterior = s.exterior := by
  have told : (s.restartBegun l epoch).partnerRestart.exterior = s.exterior := partnerRestart_exterior _
  have recorded (u : State) : u.recordLinkChange.exterior = u.exterior := rfl
  rw [restartOn_eq, recorded]
  exact exterior_ite (fun _ => (transmitLinkUp_exterior _).trans told) fun _ => told

theorem State.laneUp_exterior (epoch : Byte) : (s.laneUp l epoch).exterior = s.exterior :=
  exterior_ite (fun _ => judgeLink_exterior _) fun _ => restartOn_exterior s l epoch

theorem State.seekingAlign_exterior (role : Role) : (s.seekingAlign l role).exterior = s.exterior :=
  exterior_ite (fun _ => rfl) fun _ => exterior_ite (fun _ => rfl) fun _ => rfl

theorem State.alignedAlign_exterior (role : Role) (epoch : Byte) (ready : Bool) :
    (s.alignedAlign l role epoch ready).exterior = s.exterior :=
  exterior_ite (fun _ => seekLane_exterior _ l) fun _ => exterior_ite (fun _ => laneUp_exterior s l epoch) fun _ => rfl

theorem State.hearAlign_exterior (role : Role) (epoch : Byte) (ready : Bool) :
    (s.hearAlign l role epoch ready).exterior = s.exterior := by
  refine exterior_ite (fun _ => rfl) fun _ => ?_
  dsimp only
  split
  · rfl
  · exact seekingAlign_exterior _ l role
  · exact alignedAlign_exterior _ l role epoch ready
  · exact exterior_ite (fun _ => rfl) fun _ => seekLane_exterior _ l

/-! The Receive Engine. -/

@[simp] theorem State.deliveryCheck_exterior : (s.deliveryCheck i).exterior = s.exterior := by
  unfold deliveryCheck
  induction s.re.contexts.length generalizing s with
  | zero => rfl
  | succ n ih =>
    unfold deliverUpTo
    split
    · rfl
    · exact ih _

@[simp] theorem State.oversize_exterior (c : ReContext) : (s.oversize c).exterior = s.exterior :=
  exterior_ite (fun _ => by simp) fun _ => by simp

@[simp] theorem State.mergeSlice_exterior (c : ReContext) (u : SliceUnit) : (s.mergeSlice c u).exterior = s.exterior :=
  exterior_ite (fun _ => rfl) fun _ => exterior_ite (fun _ => rfl) fun _ =>
    exterior_ite (fun _ => oversize_exterior s c) fun _ => exterior_ite (fun _ => rfl) fun _ => rfl

@[simp] theorem State.deferSlice_exterior (u : SliceUnit) (reason : DeferReason) :
    (s.deferSlice u reason).exterior = s.exterior := exterior_ite (fun _ => rfl) fun _ => by simp

@[simp] theorem State.newMessage_exterior (u : SliceUnit) : (s.newMessage u).exterior = s.exterior := by
  unfold newMessage
  split
  · exact deferSlice_exterior s u _
  · exact exterior_ite (fun _ => mergeSlice_exterior _ _ u) fun _ => deferSlice_exterior s u _

@[simp] theorem State.sliceForContext_exterior (c : ReContext) (u : SliceUnit) :
    (s.sliceForContext c u).exterior = s.exterior := by
  unfold sliceForContext
  split <;> simp

@[simp] theorem State.behindWindow_exterior (u : SliceUnit) : (s.behindWindow u).exterior = s.exterior := by
  unfold behindWindow
  split <;> simp

@[simp] theorem State.sliceInGeneration_exterior (u : SliceUnit) : (s.sliceInGeneration u).exterior = s.exterior := by
  refine exterior_ite (fun _ => ?_) fun _ => exterior_ite (fun _ => behindWindow_exterior s u) fun _ => rfl
  split <;> simp

@[simp] theorem State.sliceOnOpen_exterior (u : SliceUnit) : (s.sliceOnOpen u).exterior = s.exterior :=
  exterior_ite (fun _ => sliceInGeneration_exterior s u) fun _ => rfl

theorem State.sliceArrives_exterior (u : SliceUnit) : (s.sliceArrives u).exterior = s.exterior := by
  refine exterior_ite (fun _ => ?_) fun _ => rfl
  split <;> simp

theorem State.writeDeparted_exterior (c : ReContext) : (s.writeDeparted c).exterior = s.exterior := by
  refine exterior_ite (fun _ => ?_) fun _ => rfl
  split <;> simp

/-! The backlog and the grants. -/

theorem State.backlogMove_exterior : s.backlogMove.exterior = s.exterior := by
  unfold backlogMove
  split
  · rfl
  · exact exterior_ite (fun _ => rfl) fun _ => rfl

theorem State.streamEventGrant_exterior : s.streamEventGrant.exterior = s.exterior := by
  refine exterior_ite (fun _ => ?_) fun _ => rfl
  split
  · rfl
  · split
    · rfl
    · exact postRecord_exterior s _

theorem State.releaseListGrant_exterior : s.releaseListGrant.exterior = s.exterior := by
  refine exterior_ite (fun _ => ?_) fun _ => rfl
  split
  · rfl
  · split
    · rfl
    · exact (closeIfReleased_exterior _ _).trans (postRecord_exterior s _)

/-! Requests. -/

theorem State.takeConfigure_exterior (tag : Tag) (c : ConfigRecord) : (s.takeConfigure tag c).exterior = s.exterior :=
  exterior_ite (fun _ => (postReserved_exterior _ _).trans (judgeLink_exterior _)) fun _ => postReserved_exterior s _

theorem State.takeOpen_exterior (tag : Tag) : (s.takeOpen i tag).exterior = s.exterior := by
  unfold takeOpen
  split <;> simp

theorem State.takeClose_exterior (tag : Tag) (mode : CloseMode) : (s.takeClose i tag mode).exterior = s.exterior := by
  unfold takeClose
  dsimp only
  split <;> simp [addClose, cancelOpening, closeNow]

theorem State.takeSend_exterior (tag : Tag) (a : HostAddr) (n : Nat) :
    (s.takeSend i tag a n).exterior = s.exterior := by
  unfold takeSend
  split <;> simp

theorem State.takePost_exterior (tag : Tag) (a : HostAddr) (n : Nat) :
    (s.takePost i tag a n).exterior = s.exterior := by
  unfold takePost
  split <;> simp

theorem State.takeFence_exterior (tag : Tag) (scope : FenceScope) : (s.takeFence tag scope).exterior = s.exterior :=
  exterior_ite (fun _ => postReserved_exterior s _) fun _ =>
    exterior_ite (fun _ => postReserved_exterior s _) fun _ => rfl

theorem State.takeQueryStream_exterior (tag : Tag) (clear : Bool) :
    (s.takeQueryStream i tag clear).exterior = s.exterior :=
  exterior_ite (fun _ => postReserved_exterior s _) fun _ => postReserved_exterior s _

theorem State.takeQueryLink_exterior (tag : Tag) (clear : Bool) : (s.takeQueryLink tag clear).exterior = s.exterior :=
  exterior_ite (fun _ => postReserved_exterior s _) fun _ => postReserved_exterior s _

theorem State.dispatch_exterior (tag : Tag) (r : Request) : (s.dispatch tag r).exterior = s.exterior := by
  cases r with
  | configure => exact takeConfigure_exterior s tag _
  | openStream i => exact takeOpen_exterior s i tag
  | closeStream i mode => exact takeClose_exterior s i tag mode
  | send i a n => exact takeSend_exterior s i tag a n
  | post i a n => exact takePost_exterior s i tag a n
  | fence scope => exact takeFence_exterior s tag scope
  | queryStream i clear => exact takeQueryStream_exterior s i tag clear
  | queryLink clear => exact takeQueryLink_exterior s tag clear

theorem State.processRecord_exterior (r : RequestRecord) : (s.processRecord r).exterior = s.exterior := by
  unfold processRecord
  split
  · exact postReserved_exterior s _
  · exact exterior_ite (fun _ => dispatch_exterior s _ _) fun _ => postReserved_exterior s _

theorem State.completeRecordRead_exterior (r : RequestRecord) : (s.completeRecordRead r).exterior = s.exterior := by
  unfold completeRecordRead
  split
  · rfl
  · refine exterior_ite (fun _ => rfl) fun _ => ?_
    split
    · exact processRecord_exterior _ r
    · rfl
    · rfl

/-! Reads. -/

theorem State.receiveRecordData_exterior (data : List Byte) : (s.receiveRecordData data).exterior = s.exterior := by
  unfold receiveRecordData
  split
  · rfl
  · exact exterior_ite (fun _ => completeRecordRead_exterior s _) fun _ => rfl

theorem State.fillWaiting_exterior (k : SlotId) (o n : Nat) (data : List Byte) :
    (s.fillWaiting k o n data).exterior = s.exterior := by
  refine exterior_ite (fun _ => rfl) fun _ => ?_
  split
  · rfl
  · exact exterior_ite (fun _ => rfl) fun _ => rfl

theorem State.receiveSliceData_exterior (id : Nat) (data : List Byte) :
    (s.receiveSliceData id data).exterior = s.exterior := by
  unfold receiveSliceData
  split
  · rfl
  · split
    · rfl
    · exact exterior_ite (fun _ => fillWaiting_exterior _ _ _ _ _) fun _ => rfl

theorem State.halt_exterior (cause : HaltCause) (a : HostAddr) : (s.halt cause a).exterior = s.exterior :=
  judgeInterrupt_exterior _ _

theorem State.readErrors_exterior (id : Nat) : (s.readErrors id).exterior = s.exterior := by
  refine exterior_ite (fun _ => rfl) fun _ => ?_
  split
  · rfl
  · exact halt_exterior _ _ _

theorem State.readTimesOut_exterior (id : Nat) : (s.readTimesOut id).exterior = s.exterior := by
  refine exterior_ite (fun _ => rfl) fun _ => ?_
  split
  · rfl
  · exact exterior_ite (fun _ => halt_exterior _ _ _) fun _ => rfl

/-! The register window. -/

theorem State.writeControl_exterior (enable ie : Bool) : (s.writeControl enable ie).exterior = s.exterior := by
  rw [writeControl, judgeInterrupt_exterior, writeEnable_eq]
  rfl

theorem State.writeRqRing_exterior (v : BitVec 64) : (s.writeRqRing v).exterior = s.exterior :=
  exterior_ite (fun _ => rfl) fun _ => rfl

theorem State.writeCqRing_exterior (v : BitVec 64) : (s.writeCqRing v).exterior = s.exterior :=
  exterior_ite (fun _ => judgeInterrupt_exterior _ _) fun _ => rfl

theorem State.writeCqHead_exterior (v : BitVec 32) : (s.writeCqHead v).exterior = s.exterior :=
  exterior_ite (fun _ => judgeInterrupt_exterior _ _) fun _ => rfl

theorem State.writeRegister_exterior (offset size : Nat) (v : BitVec 64) :
    (s.writeRegister offset size v).exterior = s.exterior := by
  have control : (s.writeControlWord v).exterior = s.exterior :=
    exterior_ite (fun _ => rfl) fun _ => writeControl_exterior s _ _
  have rq (v : BitVec 64) := s.writeRqRing_exterior v
  have cq (v : BitVec 64) := s.writeCqRing_exterior v
  have head (v : BitVec 32) := s.writeCqHead_exterior v
  refine exterior_ite (fun _ => ?_) fun _ => exterior_ite (fun _ => ?_) fun _ => rfl
  · exact exterior_ite (fun _ => control) fun _ => exterior_ite (fun _ => rq _) fun _ => exterior_ite (fun _ => rq _)
      fun _ => exterior_ite (fun _ => cq _) fun _ => exterior_ite (fun _ => cq _) fun _ => exterior_ite (fun _ => rfl)
      fun _ => exterior_ite (fun _ => head _) fun _ => rfl
  · exact exterior_ite (fun _ => rq _) fun _ => exterior_ite (fun _ => cq _) fun _ => rfl

end

/-! ### What leaves at the pins -/

/-- From `s` to `t` the queue stays, and what leaves the pins joins what has left them. -/
def Sends (s t : State) : Prop := ∃ out, t.exterior = (s.pending, out ++ s.emitted)

namespace Sends
variable {s t : State}

/-- Nothing leaves. -/
theorem nothing (h : t.exterior = s.exterior) : Sends s t := ⟨[], h⟩

/-- One thing leaves. -/
theorem one {e : Emission} (h : t.exterior = (s.emit e).exterior) : Sends s t := ⟨[e], h⟩

theorem ite {p : Prop} [Decidable p] {a b : State} (ha : p → Sends s a) (hb : ¬p → Sends s b) :
    Sends s (if p then a else b) := by
  split
  · next h => exact ha h
  · next h => exact hb h

/-- A read request leaves for the port with the issue of a read (R180). -/
theorem recordReadIssue (s : State) : Sends s (if s.recordReadEnabled then s.issueRecordRead else s) :=
  .ite (fun _ => .one rfl) fun _ => .nothing rfl

theorem grantReservation (s : State) : Sends s s.grantReservation := .ite (fun _ => .one rfl) fun _ => .nothing rfl

theorem sliceReadIssue (s : State) : Sends s s.sliceReadIssue := by
  refine .ite (fun _ => ?_) fun _ => .nothing rfl
  split
  · exact .nothing rfl
  · split
    · exact .nothing rfl
    · split
      · exact .nothing rfl
      · exact .one rfl

/-- A lane that is not OFF sends one unit (R110). -/
theorem transmit (l : LaneId) (s : State) : Sends s (s.transmit l) := by
  unfold State.transmit
  split
  · exact .nothing rfl
  · exact .one rfl
  · exact .one rfl
  · split
    · exact .one rfl
    · exact .one rfl

theorem dataWriteDeparts (s : State) : Sends s s.dataWriteDeparts := by
  unfold State.dataWriteDeparts
  split
  · dsimp only
    split
    · exact .one rfl
    · exact .one (State.writeDeparted_exterior _ _)
  · exact .nothing rfl

theorem recordWriteDeparts (s : State) : Sends s s.recordWriteDeparts := by
  unfold State.recordWriteDeparts
  split
  · exact .one rfl
  · exact .nothing rfl

/-- An interrupt message leaves only where message-signalled interrupts are enabled (R188). -/
theorem interruptMessage (msi : Bool) (s : State) : Sends s (s.interruptMessage msi) :=
  .ite (fun _ => .ite (fun _ => .one rfl) fun _ => .nothing rfl) fun _ => .nothing rfl

end Sends

/-- Every command ends, keeps the queue and takes back nothing that has left the pins. -/
theorem exec_sends (c : Instr) (s : State) : ∃ t, exec c s = .next t ∧ Sends s t := by
  cases c with
  | portReset => exact ⟨_, rfl, .nothing rfl⟩
  | softReset => exact ⟨_, rfl, .nothing rfl⟩
  | enableSet ie => exact ⟨_, rfl, .nothing (s.writeControl_exterior _ _)⟩
  | enableClear ie => exact ⟨_, rfl, .nothing (s.writeControl_exterior _ _)⟩
  | intEnableWrite e ie => exact ⟨_, rfl, .nothing (s.writeControl_exterior _ _)⟩
  | rqRingWrite v => exact ⟨_, rfl, .nothing (s.writeRqRing_exterior v)⟩
  | cqRingWrite v => exact ⟨_, rfl, .nothing (s.writeCqRing_exterior v)⟩
  | rqTailWrite v => exact ⟨_, rfl, .nothing rfl⟩
  | cqHeadWrite v => exact ⟨_, rfl, .nothing (s.writeCqHead_exterior v)⟩
  | registerWrite offset size v => exact ⟨_, rfl, .nothing (s.writeRegister_exterior offset size v)⟩
  | configure => exact ⟨_, rfl, .nothing (s.completeRecordRead_exterior _)⟩
  | openStream => exact ⟨_, rfl, .nothing (s.completeRecordRead_exterior _)⟩
  | closeStream => exact ⟨_, rfl, .nothing (s.completeRecordRead_exterior _)⟩
  | send => exact ⟨_, rfl, .nothing (s.completeRecordRead_exterior _)⟩
  | post => exact ⟨_, rfl, .nothing (s.completeRecordRead_exterior _)⟩
  | fence => exact ⟨_, rfl, .nothing (s.completeRecordRead_exterior _)⟩
  | queryStream => exact ⟨_, rfl, .nothing (s.completeRecordRead_exterior _)⟩
  | queryLink => exact ⟨_, rfl, .nothing (s.completeRecordRead_exterior _)⟩
  | reservationGrant => exact ⟨_, rfl, .ite (fun _ => .grantReservation s) fun _ => .nothing rfl⟩
  | recordReadIssue => exact ⟨_, rfl, .recordReadIssue s⟩
  | recordReadComplete data => exact ⟨_, rfl, .nothing (s.receiveRecordData_exterior data)⟩
  | sliceReadIssue => exact ⟨_, rfl, .sliceReadIssue s⟩
  | sliceReadReturn id data => exact ⟨_, rfl, .nothing (s.receiveSliceData_exterior id data)⟩
  | readError id => exact ⟨_, rfl, .nothing (s.readErrors_exterior id)⟩
  | readTimeout id => exact ⟨_, rfl, .nothing (s.readTimesOut_exterior id)⟩
  | forgottenReadReturn id => exact ⟨_, rfl, .nothing rfl⟩
  | forgottenReadExpiry id => exact ⟨_, rfl, .nothing rfl⟩
  | slicerSlotFill => exact ⟨_, rfl, .nothing s.slotFill_exterior⟩
  | unitPlacement => exact ⟨_, rfl, .nothing s.placement_exterior⟩
  | laneUnitTransmit l => exact ⟨_, rfl, .transmit l s⟩
  | alignReceived l role epoch ready =>
    exact ⟨_, rfl, .ite (fun _ => .nothing (s.hearBad_exterior l)) fun _ =>
      .nothing (s.hearAlign_exterior l role epoch ready)⟩
  | badUnitReceived l => exact ⟨_, rfl, .nothing (s.hearBad_exterior l)⟩
  | idleReceived l => exact ⟨_, rfl, .nothing (s.hearUnit_exterior l fun _ => rfl)⟩
  | silenceTimerExpiry l => exact ⟨_, rfl, .nothing (s.silence_exterior l)⟩
  | sliceReceived l => exact ⟨_, rfl, .nothing (s.hearUnit_exterior l fun u => u.sliceArrives_exterior _)⟩
  | syncReceived l i g => exact ⟨_, rfl, .nothing (s.hearUnit_exterior l fun u => u.syncArrives_exterior i g)⟩
  | syncAckReceived l i g => exact ⟨_, rfl, .nothing (s.hearUnit_exterior l fun u => u.syncAckArrives_exterior i g)⟩
  | syncTimerExpiry i => exact ⟨_, rfl, .nothing (s.syncExpiry_exterior i)⟩
  | ackReceived l i g m => exact ⟨_, rfl, .nothing (s.hearUnit_exterior l fun u => u.applyOutcome_exterior i g m _)⟩
  | deferReceived l i g m a reason =>
    exact ⟨_, rfl, .nothing (s.hearUnit_exterior l fun u => u.applyDefer_exterior i g m a)⟩
  | rejectTooLongReceived l i g m =>
    exact ⟨_, rfl, .nothing (s.hearUnit_exterior l fun u => u.applyOutcome_exterior i g m _)⟩
  | rejectNotOpenReceived l i g m =>
    exact ⟨_, rfl, .nothing (s.hearUnit_exterior l fun u => u.applyNotOpen_exterior i g m)⟩
  | ackTimerExpiry i m => exact ⟨_, rfl, .nothing (s.ackExpiry_exterior i m)⟩
  | holdoffTimerExpiry i m => exact ⟨_, rfl, .nothing (s.holdoffExpiry_exterior i m)⟩
  | dataWriteDeparts => exact ⟨_, rfl, .dataWriteDeparts s⟩
  | recordWriteDeparts => exact ⟨_, rfl, .recordWriteDeparts s⟩
  | backlogMove => exact ⟨_, rfl, .nothing s.backlogMove_exterior⟩
  | interruptMessage msi => exact ⟨_, rfl, .interruptMessage msi s⟩
  | linkEventGrant =>
    exact ⟨_, rfl, .ite (fun _ => .nothing (s.postRecord_exterior _)) fun _ => .nothing rfl⟩
  | streamEventGrant => exact ⟨_, rfl, .nothing s.streamEventGrant_exterior⟩
  | releaseListGrant => exact ⟨_, rfl, .nothing s.releaseListGrant_exterior⟩

/-- Settles O2: what a command `Sends` is put before what has left the pins. -/
theorem everyCommandEnds : Obligations.EveryCommandEnds := by
  intro c s
  obtain ⟨t, hx, out, ho⟩ := exec_sends c s
  obtain ⟨hpending, hemitted⟩ := Prod.mk.inj ho
  exact ⟨t, hx, hpending, out, hemitted⟩

/-! ### The queue -/

/-- Settles O1, by whether a command waits. -/
theorem stepRunsFrontCommand : Obligations.StepRunsFrontCommand := by
  refine ⟨fun c rest s => rfl, fun s h => ?_⟩
  rw [step, h]

end Sys2Proof.Machine
